-- ==== Sys2Proof/Word.lean ====
section
/-!
DEFINITION. The words of the YellowBoy APU core: bytes, bus addresses, operation words, the noise
shift register. Widths from rules R31, R33 (byte), R101 (16-bit address), R160 (26-bit operation
word) and R43 (15-bit LFSR). Bit 0 is the least significant bit of every value (rule R10).
-/

namespace Sys2Proof

/-- A register byte, a wave RAM byte, a data byte on the bus (rules R31, R33, R100). -/
abbrev Byte := BitVec 8

/-- A bus address (rule R101). -/
abbrev Addr := BitVec 16

/-- An operation word: kind in bits 25..24, address in bits 23..8, data in bits 7..0 (rule R160). -/
abbrev OpWord := BitVec 26

/-- The noise channel's shift register (rule R43). -/
abbrev LfsrWord := BitVec 15

end Sys2Proof
end

