-- ==== Sys2Proof/Syntax.lean ====
section
/-!
DEFINITION. The host-visible operations of the APU (rule R2), one constructor per row of
spec/opcode_table.json. The APU executes no instruction words (rule R140): where the pipeline says
"instruction", this model means one of these operations.
-/

namespace Sys2Proof

/-- The operations of spec/opcode_table.json. `v` is the data byte of a write, `k` the low address
bits a row leaves open, `a` the whole address of the catch-all rows. -/
inductive Instr where
  /-- `TICK`: one master-clock cycle (rule R424). -/
  | tick
  /-- `SAMPLE`: read the stereo output (rule R430). -/
  | sample
  /-- `WR_NR10`: write NR10 at 0xFF10 (rule R210). -/
  | wrNr10 (v : Byte)
  /-- `WR_NR11`: write NR11 at 0xFF11 (rule R211). -/
  | wrNr11 (v : Byte)
  /-- `WR_NR12`: write NR12 at 0xFF12 (rule R212). -/
  | wrNr12 (v : Byte)
  /-- `WR_NR13`: write NR13 at 0xFF13 (rule R213). -/
  | wrNr13 (v : Byte)
  /-- `WR_NR14`: write NR14 at 0xFF14 (rule R214). -/
  | wrNr14 (v : Byte)
  /-- `WR_NR21`: write NR21 at 0xFF16 (rule R221). -/
  | wrNr21 (v : Byte)
  /-- `WR_NR22`: write NR22 at 0xFF17 (rule R222). -/
  | wrNr22 (v : Byte)
  /-- `WR_NR23`: write NR23 at 0xFF18 (rule R223). -/
  | wrNr23 (v : Byte)
  /-- `WR_NR24`: write NR24 at 0xFF19 (rule R224). -/
  | wrNr24 (v : Byte)
  /-- `WR_NR30`: write NR30 at 0xFF1A (rule R230). -/
  | wrNr30 (v : Byte)
  /-- `WR_NR31`: write NR31 at 0xFF1B (rule R231). -/
  | wrNr31 (v : Byte)
  /-- `WR_NR32`: write NR32 at 0xFF1C (rule R232). -/
  | wrNr32 (v : Byte)
  /-- `WR_NR33`: write NR33 at 0xFF1D (rule R233). -/
  | wrNr33 (v : Byte)
  /-- `WR_NR34`: write NR34 at 0xFF1E (rule R234). -/
  | wrNr34 (v : Byte)
  /-- `WR_NR41`: write NR41 at 0xFF20 (rule R241). -/
  | wrNr41 (v : Byte)
  /-- `WR_NR42`: write NR42 at 0xFF21 (rule R242). -/
  | wrNr42 (v : Byte)
  /-- `WR_NR43`: write NR43 at 0xFF22 (rule R243). -/
  | wrNr43 (v : Byte)
  /-- `WR_NR44`: write NR44 at 0xFF23 (rule R244). -/
  | wrNr44 (v : Byte)
  /-- `WR_NR50`: write NR50 at 0xFF24 (rule R250). -/
  | wrNr50 (v : Byte)
  /-- `WR_NR51`: write NR51 at 0xFF25 (rule R251). -/
  | wrNr51 (v : Byte)
  /-- `WR_NR52`: write NR52 at 0xFF26 (rule R262). -/
  | wrNr52 (v : Byte)
  /-- `RD_NR10`: read NR10 at 0xFF10 (rule R215). -/
  | rdNr10
  /-- `RD_NR11`: read NR11 at 0xFF11 (rule R216). -/
  | rdNr11
  /-- `RD_NR12`: read NR12 at 0xFF12 (rule R217). -/
  | rdNr12
  /-- `RD_NR13`: read NR13 at 0xFF13 (rule R218). -/
  | rdNr13
  /-- `RD_NR14`: read NR14 at 0xFF14 (rule R219). -/
  | rdNr14
  /-- `RD_NR21`: read NR21 at 0xFF16 (rule R226). -/
  | rdNr21
  /-- `RD_NR22`: read NR22 at 0xFF17 (rule R227). -/
  | rdNr22
  /-- `RD_NR23`: read NR23 at 0xFF18 (rule R228). -/
  | rdNr23
  /-- `RD_NR24`: read NR24 at 0xFF19 (rule R229). -/
  | rdNr24
  /-- `RD_NR30`: read NR30 at 0xFF1A (rule R235). -/
  | rdNr30
  /-- `RD_NR31`: read NR31 at 0xFF1B (rule R236). -/
  | rdNr31
  /-- `RD_NR32`: read NR32 at 0xFF1C (rule R237). -/
  | rdNr32
  /-- `RD_NR33`: read NR33 at 0xFF1D (rule R238). -/
  | rdNr33
  /-- `RD_NR34`: read NR34 at 0xFF1E (rule R239). -/
  | rdNr34
  /-- `RD_NR41`: read NR41 at 0xFF20 (rule R246). -/
  | rdNr41
  /-- `RD_NR42`: read NR42 at 0xFF21 (rule R247). -/
  | rdNr42
  /-- `RD_NR43`: read NR43 at 0xFF22 (rule R248). -/
  | rdNr43
  /-- `RD_NR44`: read NR44 at 0xFF23 (rule R249). -/
  | rdNr44
  /-- `RD_NR50`: read NR50 at 0xFF24 (rule R255). -/
  | rdNr50
  /-- `RD_NR51`: read NR51 at 0xFF25 (rule R256). -/
  | rdNr51
  /-- `RD_NR52`: read NR52 at 0xFF26 (rule R263). -/
  | rdNr52
  /-- `WR_WAVE`: write wave RAM byte `k` at 0xFF30 + k (rule R270). -/
  | wrWave (k : BitVec 4) (v : Byte)
  /-- `RD_WAVE`: read wave RAM byte `k` at 0xFF30 + k (rule R271). -/
  | rdWave (k : BitVec 4)
  /-- `WR_HOLE15`: write the unmapped address 0xFF15 (rule R280). -/
  | wrHole15 (v : Byte)
  /-- `RD_HOLE15`: read the unmapped address 0xFF15 (rule R281). -/
  | rdHole15
  /-- `WR_HOLE1F`: write the unmapped address 0xFF1F (rule R280). -/
  | wrHole1F (v : Byte)
  /-- `RD_HOLE1F`: read the unmapped address 0xFF1F (rule R281). -/
  | rdHole1F
  /-- `WR_HOLE27`: write the unmapped address 0xFF27 (rule R280). -/
  | wrHole27 (v : Byte)
  /-- `RD_HOLE27`: read the unmapped address 0xFF27 (rule R281). -/
  | rdHole27
  /-- `WR_HOLE28_2F`: write the unmapped address 0xFF28 + k (rule R280). -/
  | wrHole28_2F (k : BitVec 3) (v : Byte)
  /-- `RD_HOLE28_2F`: read the unmapped address 0xFF28 + k (rule R281). -/
  | rdHole28_2F (k : BitVec 3)
  /-- `WR_UNMAPPED`: write an address outside 0xFF10..0xFF3F (rule R280). -/
  | wrUnmapped (a : Addr) (v : Byte)
  /-- `RD_UNMAPPED`: read an address outside 0xFF10..0xFF3F (rule R281). -/
  | rdUnmapped (a : Addr)
deriving DecidableEq, Repr

end Sys2Proof
end

