-- ==== Sys2Proof/WellFormed.lean ====
section
/-!
DEFINITION. Which terms of `Instr` are operations of the table: the catch-all rows `WR_UNMAPPED` and
`RD_UNMAPPED` take only the addresses that no other row takes (rule R161); every operand value of
every other row is legal (rule R165). An ill-formed term is no word of the table; log entry 15
says what `exec` does with one.
-/

namespace Sys2Proof

/-- The addresses the rows of the table other than the catch-all rows take: 0xFF10..0xFF3F, the
mapped addresses and the holes between them (rules R104, R105, R161). -/
def inApuRange (a : Addr) : Bool := decide (0xFF10 ≤ a.toNat) && decide (a.toNat ≤ 0xFF3F)

/-- The well-formed operations. -/
def Instr.wf : Instr → Bool
  | .tick => true
  | .sample => true
  | .wrNr10 _ => true
  | .wrNr11 _ => true
  | .wrNr12 _ => true
  | .wrNr13 _ => true
  | .wrNr14 _ => true
  | .wrNr21 _ => true
  | .wrNr22 _ => true
  | .wrNr23 _ => true
  | .wrNr24 _ => true
  | .wrNr30 _ => true
  | .wrNr31 _ => true
  | .wrNr32 _ => true
  | .wrNr33 _ => true
  | .wrNr34 _ => true
  | .wrNr41 _ => true
  | .wrNr42 _ => true
  | .wrNr43 _ => true
  | .wrNr44 _ => true
  | .wrNr50 _ => true
  | .wrNr51 _ => true
  | .wrNr52 _ => true
  | .rdNr10 => true
  | .rdNr11 => true
  | .rdNr12 => true
  | .rdNr13 => true
  | .rdNr14 => true
  | .rdNr21 => true
  | .rdNr22 => true
  | .rdNr23 => true
  | .rdNr24 => true
  | .rdNr30 => true
  | .rdNr31 => true
  | .rdNr32 => true
  | .rdNr33 => true
  | .rdNr34 => true
  | .rdNr41 => true
  | .rdNr42 => true
  | .rdNr43 => true
  | .rdNr44 => true
  | .rdNr50 => true
  | .rdNr51 => true
  | .rdNr52 => true
  | .wrWave _ _ => true
  | .rdWave _ => true
  | .wrHole15 _ => true
  | .rdHole15 => true
  | .wrHole1F _ => true
  | .rdHole1F => true
  | .wrHole27 _ => true
  | .rdHole27 => true
  | .wrHole28_2F _ _ => true
  | .rdHole28_2F _ => true
  | .wrUnmapped a _ => !inApuRange a
  | .rdUnmapped a => !inApuRange a

end Sys2Proof
end

