-- ==== Sys2Proof/Decode.lean ====
section
/-!
DEFINITION. Operation words (rules R160, R161): the decoder, total on every 26-bit word; its
rejection, by name, of numbers that are no 26-bit word; the opcode table as mask and pattern; the
encoder, written from the same table.
-/

namespace Sys2Proof

/-! ### The word of rule R160 -/

/-- The word with the given `kind`, `addr` and `data` (rule R160). -/
def opWord (kind : BitVec 2) (addr : Addr) (data : Byte) : OpWord := kind ++ addr ++ data

/-- Bits 25..24 of an operation word. -/
def opKind (w : OpWord) : BitVec 2 := w.extractLsb' 24 2

/-- Bits 23..8 of an operation word. -/
def opAddr (w : OpWord) : Addr := w.extractLsb' 8 16

/-- Bits 7..0 of an operation word. -/
def opData (w : OpWord) : Byte := w.extractLsb' 0 8

/-! ### Decoder -/

/-- The read operation at address `a` (the `RD_*` rows of the table, rule R161). -/
def decodeRd (a : Addr) : Instr :=
  if a = 0xFF10#16 then .rdNr10 else
  if a = 0xFF11#16 then .rdNr11 else
  if a = 0xFF12#16 then .rdNr12 else
  if a = 0xFF13#16 then .rdNr13 else
  if a = 0xFF14#16 then .rdNr14 else
  if a = 0xFF16#16 then .rdNr21 else
  if a = 0xFF17#16 then .rdNr22 else
  if a = 0xFF18#16 then .rdNr23 else
  if a = 0xFF19#16 then .rdNr24 else
  if a = 0xFF1A#16 then .rdNr30 else
  if a = 0xFF1B#16 then .rdNr31 else
  if a = 0xFF1C#16 then .rdNr32 else
  if a = 0xFF1D#16 then .rdNr33 else
  if a = 0xFF1E#16 then .rdNr34 else
  if a = 0xFF20#16 then .rdNr41 else
  if a = 0xFF21#16 then .rdNr42 else
  if a = 0xFF22#16 then .rdNr43 else
  if a = 0xFF23#16 then .rdNr44 else
  if a = 0xFF24#16 then .rdNr50 else
  if a = 0xFF25#16 then .rdNr51 else
  if a = 0xFF26#16 then .rdNr52 else
  if a = 0xFF15#16 then .rdHole15 else
  if a = 0xFF1F#16 then .rdHole1F else
  if a = 0xFF27#16 then .rdHole27 else
  if a.extractLsb' 4 12 = 0xFF3#12 then .rdWave (a.extractLsb' 0 4) else
  if a.extractLsb' 3 13 = 0x1FE5#13 then .rdHole28_2F (a.extractLsb' 0 3) else
  .rdUnmapped a

/-- The write operation of byte `v` at address `a` (the `WR_*` rows of the table, rule R161). -/
def decodeWr (a : Addr) (v : Byte) : Instr :=
  if a = 0xFF10#16 then .wrNr10 v else
  if a = 0xFF11#16 then .wrNr11 v else
  if a = 0xFF12#16 then .wrNr12 v else
  if a = 0xFF13#16 then .wrNr13 v else
  if a = 0xFF14#16 then .wrNr14 v else
  if a = 0xFF16#16 then .wrNr21 v else
  if a = 0xFF17#16 then .wrNr22 v else
  if a = 0xFF18#16 then .wrNr23 v else
  if a = 0xFF19#16 then .wrNr24 v else
  if a = 0xFF1A#16 then .wrNr30 v else
  if a = 0xFF1B#16 then .wrNr31 v else
  if a = 0xFF1C#16 then .wrNr32 v else
  if a = 0xFF1D#16 then .wrNr33 v else
  if a = 0xFF1E#16 then .wrNr34 v else
  if a = 0xFF20#16 then .wrNr41 v else
  if a = 0xFF21#16 then .wrNr42 v else
  if a = 0xFF22#16 then .wrNr43 v else
  if a = 0xFF23#16 then .wrNr44 v else
  if a = 0xFF24#16 then .wrNr50 v else
  if a = 0xFF25#16 then .wrNr51 v else
  if a = 0xFF26#16 then .wrNr52 v else
  if a = 0xFF15#16 then .wrHole15 v else
  if a = 0xFF1F#16 then .wrHole1F v else
  if a = 0xFF27#16 then .wrHole27 v else
  if a.extractLsb' 4 12 = 0xFF3#12 then .wrWave (a.extractLsb' 0 4) v else
  if a.extractLsb' 3 13 = 0x1FE5#13 then .wrHole28_2F (a.extractLsb' 0 3) v else
  .wrUnmapped a v

/-- The operation an operation word stands for: every 26-bit word has exactly one (rule R161). The
address and data bits of `TICK` and `SAMPLE` and the data bits of a read are ignored (rule R165). -/
def decode (w : OpWord) : Instr :=
  if opKind w = 0#2 then .tick else
  if opKind w = 1#2 then .sample else
  if opKind w = 2#2 then decodeRd (opAddr w) else
  decodeWr (opAddr w) (opData w)

/-- Why a number is rejected by the decoder. -/
inductive DecodeError where
  /-- The number has a bit above bit 25, so it is no operation word of rule R160. -/
  | widerThan26Bits
deriving DecidableEq, Repr

/-- The decoder on any number whatever (log entry 8). -/
def decodeNumber (n : Nat) : Except DecodeError Instr :=
  if n < 2 ^ 26 then .ok (decode (BitVec.ofNat 26 n)) else .error .widerThan26Bits

/-- The operation the decoder reads from the table's numbering of an operation's bits: the low
`nbits` bits of `w`, every bit above them 0. -/
def decodeTableWord (nbits w : Nat) : Option Instr :=
  match decodeNumber (w % 2 ^ nbits) with
  | .ok i => some i
  | .error _ => none

/-! ### Encoder -/

/-- The operation word of an operation, the ignored bits 0 (rules R160, R161). -/
def encode : Instr → OpWord
  | .tick => opWord 0#2 0#16 0#8
  | .sample => opWord 1#2 0#16 0#8
  | .wrNr10 v => opWord 3#2 0xFF10#16 v
  | .wrNr11 v => opWord 3#2 0xFF11#16 v
  | .wrNr12 v => opWord 3#2 0xFF12#16 v
  | .wrNr13 v => opWord 3#2 0xFF13#16 v
  | .wrNr14 v => opWord 3#2 0xFF14#16 v
  | .wrNr21 v => opWord 3#2 0xFF16#16 v
  | .wrNr22 v => opWord 3#2 0xFF17#16 v
  | .wrNr23 v => opWord 3#2 0xFF18#16 v
  | .wrNr24 v => opWord 3#2 0xFF19#16 v
  | .wrNr30 v => opWord 3#2 0xFF1A#16 v
  | .wrNr31 v => opWord 3#2 0xFF1B#16 v
  | .wrNr32 v => opWord 3#2 0xFF1C#16 v
  | .wrNr33 v => opWord 3#2 0xFF1D#16 v
  | .wrNr34 v => opWord 3#2 0xFF1E#16 v
  | .wrNr41 v => opWord 3#2 0xFF20#16 v
  | .wrNr42 v => opWord 3#2 0xFF21#16 v
  | .wrNr43 v => opWord 3#2 0xFF22#16 v
  | .wrNr44 v => opWord 3#2 0xFF23#16 v
  | .wrNr50 v => opWord 3#2 0xFF24#16 v
  | .wrNr51 v => opWord 3#2 0xFF25#16 v
  | .wrNr52 v => opWord 3#2 0xFF26#16 v
  | .rdNr10 => opWord 2#2 0xFF10#16 0#8
  | .rdNr11 => opWord 2#2 0xFF11#16 0#8
  | .rdNr12 => opWord 2#2 0xFF12#16 0#8
  | .rdNr13 => opWord 2#2 0xFF13#16 0#8
  | .rdNr14 => opWord 2#2 0xFF14#16 0#8
  | .rdNr21 => opWord 2#2 0xFF16#16 0#8
  | .rdNr22 => opWord 2#2 0xFF17#16 0#8
  | .rdNr23 => opWord 2#2 0xFF18#16 0#8
  | .rdNr24 => opWord 2#2 0xFF19#16 0#8
  | .rdNr30 => opWord 2#2 0xFF1A#16 0#8
  | .rdNr31 => opWord 2#2 0xFF1B#16 0#8
  | .rdNr32 => opWord 2#2 0xFF1C#16 0#8
  | .rdNr33 => opWord 2#2 0xFF1D#16 0#8
  | .rdNr34 => opWord 2#2 0xFF1E#16 0#8
  | .rdNr41 => opWord 2#2 0xFF20#16 0#8
  | .rdNr42 => opWord 2#2 0xFF21#16 0#8
  | .rdNr43 => opWord 2#2 0xFF22#16 0#8
  | .rdNr44 => opWord 2#2 0xFF23#16 0#8
  | .rdNr50 => opWord 2#2 0xFF24#16 0#8
  | .rdNr51 => opWord 2#2 0xFF25#16 0#8
  | .rdNr52 => opWord 2#2 0xFF26#16 0#8
  | .wrWave k v => opWord 3#2 (0xFF3#12 ++ k) v
  | .rdWave k => opWord 2#2 (0xFF3#12 ++ k) 0#8
  | .wrHole15 v => opWord 3#2 0xFF15#16 v
  | .rdHole15 => opWord 2#2 0xFF15#16 0#8
  | .wrHole1F v => opWord 3#2 0xFF1F#16 v
  | .rdHole1F => opWord 2#2 0xFF1F#16 0#8
  | .wrHole27 v => opWord 3#2 0xFF27#16 v
  | .rdHole27 => opWord 2#2 0xFF27#16 0#8
  | .wrHole28_2F k v => opWord 3#2 (0x1FE5#13 ++ k) v
  | .rdHole28_2F k => opWord 2#2 (0x1FE5#13 ++ k) 0#8
  | .wrUnmapped a v => opWord 3#2 a v
  | .rdUnmapped a => opWord 2#2 a 0#8

/-! ### The opcode table (rule R161 and spec/opcode_table.json) -/

/-- One row: its mnemonic, the bits it fixes (`mask`) and their values (`bits`). -/
structure OpRow where
  mnemonic : String
  bits : OpWord
  mask : OpWord
deriving DecidableEq, Repr

/-- The row takes the word: `word and mask = match`. -/
def OpRow.takes (r : OpRow) (w : OpWord) : Bool := w &&& r.mask == r.bits

/-- How many 1 bits the row's mask has. -/
def OpRow.weight (r : OpRow) : Nat := (List.range 26).countP fun j => r.mask.getLsbD j

/-- `TICK` and `SAMPLE`. -/
def clockRows : List OpRow :=
  [ OpRow.mk "TICK" 0x0000000#26 0x3000000#26
  , OpRow.mk "SAMPLE" 0x1000000#26 0x3000000#26 ]

/-- The register write rows. -/
def writeRows : List OpRow :=
  [ OpRow.mk "WR_NR10" 0x3FF1000#26 0x3FFFF00#26
  , OpRow.mk "WR_NR11" 0x3FF1100#26 0x3FFFF00#26
  , OpRow.mk "WR_NR12" 0x3FF1200#26 0x3FFFF00#26
  , OpRow.mk "WR_NR13" 0x3FF1300#26 0x3FFFF00#26
  , OpRow.mk "WR_NR14" 0x3FF1400#26 0x3FFFF00#26
  , OpRow.mk "WR_NR21" 0x3FF1600#26 0x3FFFF00#26
  , OpRow.mk "WR_NR22" 0x3FF1700#26 0x3FFFF00#26
  , OpRow.mk "WR_NR23" 0x3FF1800#26 0x3FFFF00#26
  , OpRow.mk "WR_NR24" 0x3FF1900#26 0x3FFFF00#26
  , OpRow.mk "WR_NR30" 0x3FF1A00#26 0x3FFFF00#26
  , OpRow.mk "WR_NR31" 0x3FF1B00#26 0x3FFFF00#26
  , OpRow.mk "WR_NR32" 0x3FF1C00#26 0x3FFFF00#26
  , OpRow.mk "WR_NR33" 0x3FF1D00#26 0x3FFFF00#26
  , OpRow.mk "WR_NR34" 0x3FF1E00#26 0x3FFFF00#26
  , OpRow.mk "WR_NR41" 0x3FF2000#26 0x3FFFF00#26
  , OpRow.mk "WR_NR42" 0x3FF2100#26 0x3FFFF00#26
  , OpRow.mk "WR_NR43" 0x3FF2200#26 0x3FFFF00#26
  , OpRow.mk "WR_NR44" 0x3FF2300#26 0x3FFFF00#26
  , OpRow.mk "WR_NR50" 0x3FF2400#26 0x3FFFF00#26
  , OpRow.mk "WR_NR51" 0x3FF2500#26 0x3FFFF00#26
  , OpRow.mk "WR_NR52" 0x3FF2600#26 0x3FFFF00#26 ]

/-- The register read rows. -/
def readRows : List OpRow :=
  [ OpRow.mk "RD_NR10" 0x2FF1000#26 0x3FFFF00#26
  , OpRow.mk "RD_NR11" 0x2FF1100#26 0x3FFFF00#26
  , OpRow.mk "RD_NR12" 0x2FF1200#26 0x3FFFF00#26
  , OpRow.mk "RD_NR13" 0x2FF1300#26 0x3FFFF00#26
  , OpRow.mk "RD_NR14" 0x2FF1400#26 0x3FFFF00#26
  , OpRow.mk "RD_NR21" 0x2FF1600#26 0x3FFFF00#26
  , OpRow.mk "RD_NR22" 0x2FF1700#26 0x3FFFF00#26
  , OpRow.mk "RD_NR23" 0x2FF1800#26 0x3FFFF00#26
  , OpRow.mk "RD_NR24" 0x2FF1900#26 0x3FFFF00#26
  , OpRow.mk "RD_NR30" 0x2FF1A00#26 0x3FFFF00#26
  , OpRow.mk "RD_NR31" 0x2FF1B00#26 0x3FFFF00#26
  , OpRow.mk "RD_NR32" 0x2FF1C00#26 0x3FFFF00#26
  , OpRow.mk "RD_NR33" 0x2FF1D00#26 0x3FFFF00#26
  , OpRow.mk "RD_NR34" 0x2FF1E00#26 0x3FFFF00#26
  , OpRow.mk "RD_NR41" 0x2FF2000#26 0x3FFFF00#26
  , OpRow.mk "RD_NR42" 0x2FF2100#26 0x3FFFF00#26
  , OpRow.mk "RD_NR43" 0x2FF2200#26 0x3FFFF00#26
  , OpRow.mk "RD_NR44" 0x2FF2300#26 0x3FFFF00#26
  , OpRow.mk "RD_NR50" 0x2FF2400#26 0x3FFFF00#26
  , OpRow.mk "RD_NR51" 0x2FF2500#26 0x3FFFF00#26
  , OpRow.mk "RD_NR52" 0x2FF2600#26 0x3FFFF00#26 ]

/-- Wave RAM, the holes, the catch-all rows. -/
def otherRows : List OpRow :=
  [ OpRow.mk "WR_WAVE" 0x3FF3000#26 0x3FFF000#26
  , OpRow.mk "RD_WAVE" 0x2FF3000#26 0x3FFF000#26
  , OpRow.mk "WR_HOLE15" 0x3FF1500#26 0x3FFFF00#26
  , OpRow.mk "RD_HOLE15" 0x2FF1500#26 0x3FFFF00#26
  , OpRow.mk "WR_HOLE1F" 0x3FF1F00#26 0x3FFFF00#26
  , OpRow.mk "RD_HOLE1F" 0x2FF1F00#26 0x3FFFF00#26
  , OpRow.mk "WR_HOLE27" 0x3FF2700#26 0x3FFFF00#26
  , OpRow.mk "RD_HOLE27" 0x2FF2700#26 0x3FFFF00#26
  , OpRow.mk "WR_HOLE28_2F" 0x3FF2800#26 0x3FFF800#26
  , OpRow.mk "RD_HOLE28_2F" 0x2FF2800#26 0x3FFF800#26
  , OpRow.mk "WR_UNMAPPED" 0x3000000#26 0x3000000#26
  , OpRow.mk "RD_UNMAPPED" 0x2000000#26 0x3000000#26 ]

/-- The 56 rows of spec/opcode_table.json, in its order. -/
def opTable : List OpRow := clockRows ++ writeRows ++ readRows ++ otherRows

/-- The operation's mnemonic in spec/opcode_table.json. -/
def Instr.mnemonic : Instr → String
  | .tick => "TICK"
  | .sample => "SAMPLE"
  | .wrNr10 _ => "WR_NR10"
  | .wrNr11 _ => "WR_NR11"
  | .wrNr12 _ => "WR_NR12"
  | .wrNr13 _ => "WR_NR13"
  | .wrNr14 _ => "WR_NR14"
  | .wrNr21 _ => "WR_NR21"
  | .wrNr22 _ => "WR_NR22"
  | .wrNr23 _ => "WR_NR23"
  | .wrNr24 _ => "WR_NR24"
  | .wrNr30 _ => "WR_NR30"
  | .wrNr31 _ => "WR_NR31"
  | .wrNr32 _ => "WR_NR32"
  | .wrNr33 _ => "WR_NR33"
  | .wrNr34 _ => "WR_NR34"
  | .wrNr41 _ => "WR_NR41"
  | .wrNr42 _ => "WR_NR42"
  | .wrNr43 _ => "WR_NR43"
  | .wrNr44 _ => "WR_NR44"
  | .wrNr50 _ => "WR_NR50"
  | .wrNr51 _ => "WR_NR51"
  | .wrNr52 _ => "WR_NR52"
  | .rdNr10 => "RD_NR10"
  | .rdNr11 => "RD_NR11"
  | .rdNr12 => "RD_NR12"
  | .rdNr13 => "RD_NR13"
  | .rdNr14 => "RD_NR14"
  | .rdNr21 => "RD_NR21"
  | .rdNr22 => "RD_NR22"
  | .rdNr23 => "RD_NR23"
  | .rdNr24 => "RD_NR24"
  | .rdNr30 => "RD_NR30"
  | .rdNr31 => "RD_NR31"
  | .rdNr32 => "RD_NR32"
  | .rdNr33 => "RD_NR33"
  | .rdNr34 => "RD_NR34"
  | .rdNr41 => "RD_NR41"
  | .rdNr42 => "RD_NR42"
  | .rdNr43 => "RD_NR43"
  | .rdNr44 => "RD_NR44"
  | .rdNr50 => "RD_NR50"
  | .rdNr51 => "RD_NR51"
  | .rdNr52 => "RD_NR52"
  | .wrWave _ _ => "WR_WAVE"
  | .rdWave _ => "RD_WAVE"
  | .wrHole15 _ => "WR_HOLE15"
  | .rdHole15 => "RD_HOLE15"
  | .wrHole1F _ => "WR_HOLE1F"
  | .rdHole1F => "RD_HOLE1F"
  | .wrHole27 _ => "WR_HOLE27"
  | .rdHole27 => "RD_HOLE27"
  | .wrHole28_2F _ _ => "WR_HOLE28_2F"
  | .rdHole28_2F _ => "RD_HOLE28_2F"
  | .wrUnmapped _ _ => "WR_UNMAPPED"
  | .rdUnmapped _ => "RD_UNMAPPED"

end Sys2Proof
end

