-- ==== Sys2Proof/Config.lean ====
section
/-!
DEFINITION. What the spec fixes as constants (rule R8) and what it leaves to the implementation as
named parameters (rule R9), at the spec's defaults. The defaults of the two tables `DUTY_TABLE` and
`READ_MASK` stand with the register fields in Machine/Operands.lean; Machine/Params.lean makes all six
arguments of the machine.
-/

namespace Sys2Proof.Config

/-! ### Constants of rule R8 -/

/-- `FS_PERIOD`: master cycles per frame-sequencer step. -/
def fsPeriod : Nat := 8192

/-- `PULSE_TIMER_MUL`. -/
def pulseTimerMul : Nat := 4

/-- `WAVE_TIMER_MUL`. -/
def waveTimerMul : Nat := 2

/-- `PERIOD_MOD`: period values are below it. -/
def periodMod : Nat := 2048

/-- `PULSE_LEN_MAX` and `NOISE_LEN_MAX`. -/
def shortLenMax : Nat := 64

/-- `WAVE_LEN_MAX`. -/
def waveLenMax : Nat := 256

/-- `VOL_MAX`. -/
def volMax : Nat := 15

/-- `LFSR_SEED`: all ones, loaded by a noise trigger. -/
def lfsrSeed : LfsrWord := 0x7FFF#15

/-- `SWEEP_ZERO_PERIOD`: the sweep timer reload when the sweep period field is 0. -/
def sweepZeroPeriod : Nat := 8

/-- `OPEN_BUS`: what a read of an unmapped address returns. -/
def openBus : Byte := 0xFF#8

/-- The address of the power/status register NR52 (rule R104). -/
def powerAddr : Addr := 0xFF26#16

/-- The address of the first byte of the wave RAM (rule R104). -/
def waveBase : Nat := 0xFF30

/-- `WAVE_SAMPLES` / 2: bytes of wave RAM. -/
def waveBytes : Nat := 16

/-! ### Defaults of the parameters of rule R9 -/

/-- `CLK_HZ`, in no rule of the state; only converts cycles to rates (decision D1, log entry 7). -/
def clkHz : Nat := 4194304

/-- `HEADROOM` (decision D7, log entry 6): divides a sample into the normalised frame of rule R432. -/
def headroom : Nat := 480

/-- `RESET_POWER`, the power bit after reset (decision D4, log entry 2). -/
def resetPower : Bool := true

/-- `WAVE_RAM_INIT`: byte `i` of the wave RAM after reset. The spec leaves it open with no default
(rules R9 and R70, decision D5), so it is a FREE VALUE with no body (log entry 1). -/
opaque waveRamInit : Nat → Byte

end Sys2Proof.Config
end

