-- ==== Sys2Proof/Machine/State.lean ====
section
/-!
DEFINITION. The whole state of the APU as rule R30 lists it (`Apu`), the stream of what the host
presents and the answer to the last operation (`State`), the reasons a step can stop, and the reset
state (rule R70).
-/

namespace Sys2Proof.Machine

/-! ### Stored register bytes (rule R31) -/

/-- The 20 stored register bytes; all 8 bits are kept as written (rule R34). -/
structure Regs where
  /-- NR10, sweep (layout rule R141). -/
  nr10 : Byte
  /-- NR11, duty/length (layout rule R142). -/
  nr11 : Byte
  /-- NR12, envelope (layout rule R143). -/
  nr12 : Byte
  /-- NR13, freq-lo (layout rule R144). -/
  nr13 : Byte
  /-- NR14, freq-hi/control/trigger (layout rule R145). -/
  nr14 : Byte
  /-- NR21, duty/length (layout rule R142). -/
  nr21 : Byte
  /-- NR22, envelope (layout rule R143). -/
  nr22 : Byte
  /-- NR23, freq-lo (layout rule R144). -/
  nr23 : Byte
  /-- NR24, freq-hi/control/trigger (layout rule R145). -/
  nr24 : Byte
  /-- NR30, control (layout rule R146). -/
  nr30 : Byte
  /-- NR31, length (layout rule R146). -/
  nr31 : Byte
  /-- NR32, volume (layout rule R146). -/
  nr32 : Byte
  /-- NR33, freq-lo (layout rule R144). -/
  nr33 : Byte
  /-- NR34, freq-hi/trigger (layout rule R145). -/
  nr34 : Byte
  /-- NR41, length (layout rule R147). -/
  nr41 : Byte
  /-- NR42, envelope (layout rule R143). -/
  nr42 : Byte
  /-- NR43, divisor-config (layout rule R147). -/
  nr43 : Byte
  /-- NR44, control-trigger (layout rule R145). -/
  nr44 : Byte
  /-- NR50, master volume (layout rule R148). -/
  nr50 : Byte
  /-- NR51, stereo panning (layout rule R148). -/
  nr51 : Byte
deriving DecidableEq, Repr

/-! ### Runtime state (rules R40 to R44)

Counters are naturals and phases are `Fin`, not words of a fixed width (rule R46, log entry 10). -/

/-- Runtime state of a pulse channel (rules R40, R41). -/
structure Pulse where
  /-- `en`: the channel is enabled (Active). -/
  en : Bool
  /-- `ft`: frequency timer, master cycles left. -/
  ft : Nat
  /-- `ph`: waveform phase, modulo 8. -/
  ph : Fin 8
  /-- `len`: length counter. -/
  len : Nat
  /-- `et`: envelope timer. -/
  et : Nat
  /-- `vol`: current volume. -/
  vol : Nat
deriving DecidableEq, Repr

/-- The sweep unit of channel 1 (rule R40). -/
structure Sweep where
  /-- `swt`: sweep timer. -/
  swt : Nat
  /-- `shadow`: shadow frequency. -/
  shadow : Nat
  /-- `swen`: sweep enabled. -/
  swen : Bool
deriving DecidableEq, Repr

/-- Runtime state of the wave channel (rule R42): no envelope, no volume. -/
structure Wave where
  /-- `en3`. -/
  en : Bool
  /-- `ft3`: frequency timer. -/
  ft : Nat
  /-- `ph3`: index of the current sample, modulo 32. -/
  ph : Fin 32
  /-- `len3`: length counter. -/
  len : Nat
deriving DecidableEq, Repr

/-- Runtime state of the noise channel (rule R43). -/
structure Noise where
  /-- `en4`. -/
  en : Bool
  /-- `ft4`: frequency timer. -/
  ft : Nat
  /-- `lfsr`: the shift register. -/
  lfsr : LfsrWord
  /-- `len4`: length counter. -/
  len : Nat
  /-- `et4`: envelope timer. -/
  et : Nat
  /-- `vol4`: current volume. -/
  vol : Nat
deriving DecidableEq, Repr

/-- Frame sequencer state (rule R44). -/
structure FrameSeq where
  /-- `fst`: master cycles accumulated toward the next step. -/
  fst : Nat
  /-- `fss`: the step, modulo 8. -/
  fss : Fin 8
deriving DecidableEq, Repr

/-! ### Wave sample RAM (rule R33) -/

/-- The APU's only memory, the wave RAM, as (address, byte) cells. -/
abbrev Memory := List Host.Cell

/-- The addresses of the wave RAM, 0xFF30..0xFF3F, rising (rule R104). -/
def waveAddrs : List Nat := (List.range Config.waveBytes).map fun k => Config.waveBase + k

/-- The one canonical form: exactly the 16 wave RAM addresses are listed, strictly rising. An
unlisted address holds no byte at all, so no entry equals what one reads as (log entry 1). -/
abbrev Memory.wf (m : Memory) : Prop := m.map Prod.fst = waveAddrs

/-! ### The APU and the machine -/

/-- The whole state of the APU (rule R30). -/
structure Apu where
  /-- The stored register bytes (rule R31). -/
  regs : Regs
  /-- `wave_ram` (rule R33). -/
  mem : Memory
  /-- `power`: powered on (rule R45). -/
  power : Bool
  /-- Channel 1, Pulse A (rule R40). -/
  ch1 : Pulse
  /-- The sweep unit of channel 1 (rule R40). -/
  sweep : Sweep
  /-- Channel 2, Pulse B (rule R41). -/
  ch2 : Pulse
  /-- Channel 3, Wave (rule R42). -/
  ch3 : Wave
  /-- Channel 4, Noise (rule R43). -/
  ch4 : Noise
  /-- Frame sequencer (rule R44). -/
  fs : FrameSeq
deriving DecidableEq, Repr

/-- The input pins at one rising edge of `clk` (rules R100, R480). -/
structure Pins where
  /-- `rst`: hardware reset. -/
  rst : Bool
  /-- `we`: write strobe. -/
  we : Bool
  /-- `re`: read strobe. -/
  re : Bool
  /-- `addr`. -/
  addr : Addr
  /-- `wdata`. -/
  wdata : Byte
deriving DecidableEq, Repr

/-- What the host presents for one step (log entry 4). -/
inductive Input where
  /-- One operation of the abstract view (rule R103), as its word (rule R160). -/
  | op (w : OpWord)
  /-- One clock edge of the port-level machine (rule R102). -/
  | clock (p : Pins)
deriving DecidableEq, Repr

/-- What the operation just performed returned to the host (log entry 5). -/
inductive Response where
  /-- Nothing: `TICK` and `WR` return nothing. -/
  | none
  /-- The byte a read returned (rule R201). -/
  | byte (v : Byte)
  /-- The pair `(out_l, out_r)` a `SAMPLE` returned (rule R430). -/
  | frame (l r : Nat)
  /-- The output ports `rdata`, `out_l`, `out_r` during a clock cycle (rule R100). -/
  | ports (rdata : Byte) (l r : Nat)
deriving DecidableEq, Repr

/-- The machine: the APU, what the host presents next (oldest first), and the last answer. The last
two fields are the model's own and no state of the APU (log entries 4 and 5). -/
structure State where
  apu : Apu
  inputs : List Input
  response : Response
deriving DecidableEq, Repr

/-- The reasons a step stops with a fault: none, the list of exception causes is empty (rule R460). -/
inductive Fault where
deriving DecidableEq, Repr

/-- The reasons a step is refused. -/
inductive Refusal where
  /-- Raised by an arm of `exec` for an operation that has no meaning yet. Safe: nothing runs. -/
  | notModelled (mnemonic : String)
  /-- Raised by `step` when the host has presented nothing: the finite operation sequence of rule
  R103 is at its end. Safe: the run ends, no state is invented. -/
  | noInput
  /-- Raised at a clock edge with `we` and `re` both 1, which rule R102 gives no meaning ("refuse").
  Safe: nothing is claimed about such an edge. -/
  | readAndWriteTogether
deriving DecidableEq, Repr

/-! ### Reset (rule R70) -/

/-- Every register byte 0x00 (rules R31, R70). -/
def Regs.reset : Regs :=
  { nr10 := 0#8, nr11 := 0#8, nr12 := 0#8, nr13 := 0#8, nr14 := 0#8, nr21 := 0#8, nr22 := 0#8, nr23 := 0#8, nr24 := 0#8, nr30 := 0#8,
    nr31 := 0#8, nr32 := 0#8, nr33 := 0#8, nr34 := 0#8, nr41 := 0#8, nr42 := 0#8, nr43 := 0#8, nr44 := 0#8, nr50 := 0#8, nr51 := 0#8 }

/-- A pulse channel after reset. -/
def Pulse.reset : Pulse := { en := false, ft := 0, ph := 0, len := 0, et := 0, vol := 0 }

/-- The wave RAM holding byte `init k` at address 0xFF30 + k. -/
def Memory.ofInit (init : Nat → Byte) : Memory :=
  (List.range Config.waveBytes).map fun k => (Config.waveBase + k, init k)

/-- The reset state of the APU for any values of the parameters `WAVE_RAM_INIT` and `RESET_POWER`
(rules R9, R70). -/
def Apu.resetWith (init : Nat → Byte) (power : Bool) : Apu where
  regs := Regs.reset
  mem := Memory.ofInit init
  power := power
  ch1 := Pulse.reset
  sweep := { swt := 0, shadow := 0, swen := false }
  ch2 := Pulse.reset
  ch3 := { en := false, ft := 0, ph := 0, len := 0 }
  ch4 := { en := false, ft := 0, lfsr := Config.lfsrSeed, len := 0, et := 0, vol := 0 }
  fs := { fst := 0, fss := 0 }

/-- The reset state of the APU. -/
def Apu.reset : Apu := Apu.resetWith Config.waveRamInit Config.resetPower

/-- The machine right after reset: the APU as rule R70 says, nothing presented, nothing answered. -/
def State.reset : State where
  apu := Apu.reset
  inputs := []
  response := .none

end Sys2Proof.Machine
end

