-- ==== Sys2Proof/Machine/Ops.lean ====
section
/-!
DEFINITION. The named operations over the state: one update per field, the register bytes by name
and address (rules R31, R104), the wave RAM (rules R33, R270, R271), the power gate of writes (rules
R114, R200), and how an operation answers. There is no operation for taking an exception or
returning from one: the APU raises nothing (rules R460, R464).
-/

namespace Sys2Proof.Machine

/-! ### Updates of one field -/

/-- The APU with `regs` replaced. -/
def Apu.withRegs (a : Apu) (x : Regs) : Apu := { a with regs := x }

/-- The APU with `mem` replaced. -/
def Apu.withMem (a : Apu) (x : Memory) : Apu := { a with mem := x }

/-- The APU with `power` replaced. -/
def Apu.withPower (a : Apu) (x : Bool) : Apu := { a with power := x }

/-- The APU with `ch1` replaced. -/
def Apu.withCh1 (a : Apu) (x : Pulse) : Apu := { a with ch1 := x }

/-- The APU with `sweep` replaced. -/
def Apu.withSweep (a : Apu) (x : Sweep) : Apu := { a with sweep := x }

/-- The APU with `ch2` replaced. -/
def Apu.withCh2 (a : Apu) (x : Pulse) : Apu := { a with ch2 := x }

/-- The APU with `ch3` replaced. -/
def Apu.withCh3 (a : Apu) (x : Wave) : Apu := { a with ch3 := x }

/-- The APU with `ch4` replaced. -/
def Apu.withCh4 (a : Apu) (x : Noise) : Apu := { a with ch4 := x }

/-- The APU with `fs` replaced. -/
def Apu.withFs (a : Apu) (x : FrameSeq) : Apu := { a with fs := x }

/-- The machine with `apu` replaced. -/
def State.withApu (s : State) (x : Apu) : State := { s with apu := x }

/-- The machine with `inputs` replaced. -/
def State.withInputs (s : State) (x : List Input) : State := { s with inputs := x }

/-- The machine with `response` replaced. -/
def State.withResponse (s : State) (x : Response) : State := { s with response := x }

/-! ### Register bytes by name (rule R31) -/

/-- The names of the stored register bytes. NR52 is not one of them (rule R32). -/
inductive Reg where
  | nr10 | nr11 | nr12 | nr13 | nr14 | nr21 | nr22 | nr23 | nr24 | nr30
  | nr31 | nr32 | nr33 | nr34 | nr41 | nr42 | nr43 | nr44 | nr50 | nr51
deriving DecidableEq, Repr

/-- `reg.NAME` (rule R12). -/
def Regs.get (r : Regs) : Reg → Byte
  | .nr10 => r.nr10
  | .nr11 => r.nr11
  | .nr12 => r.nr12
  | .nr13 => r.nr13
  | .nr14 => r.nr14
  | .nr21 => r.nr21
  | .nr22 => r.nr22
  | .nr23 => r.nr23
  | .nr24 => r.nr24
  | .nr30 => r.nr30
  | .nr31 => r.nr31
  | .nr32 => r.nr32
  | .nr33 => r.nr33
  | .nr34 => r.nr34
  | .nr41 => r.nr41
  | .nr42 => r.nr42
  | .nr43 => r.nr43
  | .nr44 => r.nr44
  | .nr50 => r.nr50
  | .nr51 => r.nr51

/-- `reg.NAME <- v` (rule R12). -/
def Regs.set (r : Regs) (n : Reg) (v : Byte) : Regs :=
  match n with
  | .nr10 => { r with nr10 := v }
  | .nr11 => { r with nr11 := v }
  | .nr12 => { r with nr12 := v }
  | .nr13 => { r with nr13 := v }
  | .nr14 => { r with nr14 := v }
  | .nr21 => { r with nr21 := v }
  | .nr22 => { r with nr22 := v }
  | .nr23 => { r with nr23 := v }
  | .nr24 => { r with nr24 := v }
  | .nr30 => { r with nr30 := v }
  | .nr31 => { r with nr31 := v }
  | .nr32 => { r with nr32 := v }
  | .nr33 => { r with nr33 := v }
  | .nr34 => { r with nr34 := v }
  | .nr41 => { r with nr41 := v }
  | .nr42 => { r with nr42 := v }
  | .nr43 => { r with nr43 := v }
  | .nr44 => { r with nr44 := v }
  | .nr50 => { r with nr50 := v }
  | .nr51 => { r with nr51 := v }

/-- The address of a register (rule R104). -/
def Reg.addr : Reg → Addr
  | .nr10 => 0xFF10#16
  | .nr11 => 0xFF11#16
  | .nr12 => 0xFF12#16
  | .nr13 => 0xFF13#16
  | .nr14 => 0xFF14#16
  | .nr21 => 0xFF16#16
  | .nr22 => 0xFF17#16
  | .nr23 => 0xFF18#16
  | .nr24 => 0xFF19#16
  | .nr30 => 0xFF1A#16
  | .nr31 => 0xFF1B#16
  | .nr32 => 0xFF1C#16
  | .nr33 => 0xFF1D#16
  | .nr34 => 0xFF1E#16
  | .nr41 => 0xFF20#16
  | .nr42 => 0xFF21#16
  | .nr43 => 0xFF22#16
  | .nr44 => 0xFF23#16
  | .nr50 => 0xFF24#16
  | .nr51 => 0xFF25#16

/-- All register names, by rising address. -/
def allRegs : List Reg :=
  [.nr10, .nr11, .nr12, .nr13, .nr14, .nr21, .nr22, .nr23, .nr24, .nr30,
   .nr31, .nr32, .nr33, .nr34, .nr41, .nr42, .nr43, .nr44, .nr50, .nr51]

/-- The register at an address, if one is mapped there (rule R104). -/
def regAt (a : Addr) : Option Reg := allRegs.find? fun n => n.addr == a

/-- `reg.NAME <- v` on the APU. -/
def storeReg (n : Reg) (v : Byte) (a : Apu) : Apu := a.withRegs (a.regs.set n v)

/-! ### Wave RAM (rules R33, R270, R271) -/

/-- The byte a memory holds at an address, if it holds one there. -/
def Memory.read : Memory → Nat → Option Byte
  | [], _ => none
  | (k, v) :: m, a => if k = a then some v else Memory.read m a

/-- Stores a byte at an address the memory has; an address it has not takes no byte. -/
def Memory.write : Memory → Nat → Byte → Memory
  | [], _, _ => []
  | (k, x) :: m, a, v => if k = a then (k, v) :: m else (k, x) :: Memory.write m a v

/-- `wave_ram[k]` (rule R33). -/
def waveByte (m : Memory) (k : Nat) : Byte := (m.read (Config.waveBase + k)).getD Config.openBus

/-- `wave_ram[k] <- v` (rule R270). -/
def storeWave (k : Nat) (v : Byte) (a : Apu) : Apu := a.withMem (a.mem.write (Config.waveBase + k) v)

/-! ### How an operation ends -/

/-- The outcome type of this machine. -/
abbrev StepResult := Host.Outcome State Fault Refusal

/-- An operation that changes the APU and returns nothing (`TICK`, `WR`). -/
def changes (f : Apu → Apu) (s : State) : StepResult := .next ((s.withApu (f s.apu)).withResponse .none)

/-- An operation that returns an answer and changes no state of the APU (`RD`, `SAMPLE`). -/
def answers (f : Apu → Response) (s : State) : StepResult := .next (s.withResponse (f s.apu))

/-- The power gate of every write but `WR 0xFF26`: while off it changes nothing (rules R114, R200). -/
def gated (f : Apu → Apu) (a : Apu) : Apu := if a.power then f a else a

end Sys2Proof.Machine
end

