-- ==== Sys2Proof/Machine/Operands.lean ====
section
/-!
DEFINITION. The fields of the register bytes (rules R141 to R149, log entry 14), the derived
quantities read live from them (rules R151, R35), the read masks (rule R150) and the duty table (rule
R331).
-/

namespace Sys2Proof.Machine

/-- The number in the `width` bits of `b` from bit `lo` up, `b[lo+width-1:lo]` (rule R10). -/
def bitField (b : Byte) (lo width : Nat) : Nat := b.toNat / 2 ^ lo % 2 ^ width

/-! ### NR10 (rule R141) -/

/-- `sweep_period`, bits 6..4. -/
def sweepPeriod (r : Regs) : Nat := bitField r.nr10 4 3

/-- `sweep_dir`, bit 3: 1 = subtract. -/
def sweepSubtracts (r : Regs) : Bool := r.nr10.getLsbD 3

/-- `sweep_shift`, bits 2..0. -/
def sweepShift (r : Regs) : Nat := bitField r.nr10 0 3

/-- `sweep_reload` (rule R151): the sweep period, or 8 when it is 0. -/
def sweepReload (r : Regs) : Nat :=
  if sweepPeriod r = 0 then Config.sweepZeroPeriod else sweepPeriod r

/-! ### NRx1 (rules R142, R146, R147) -/

/-- `duty`, bits 7..6. -/
def duty (b : Byte) : Nat := bitField b 6 2

/-- The length counter a write of `b` to NR11, NR21 or NR41 loads: 64 minus bits 5..0 (rule R152). -/
def shortLength (b : Byte) : Nat := Config.shortLenMax - bitField b 0 6

/-- The length counter a write of `b` to NR31 loads: 256 minus the byte (rule R152). -/
def waveLength (b : Byte) : Nat := Config.waveLenMax - bitField b 0 8

/-! ### NRx2 of channels 1, 2, 4 (rule R143) -/

/-- `env_volume`, bits 7..4. -/
def envVolume (b : Byte) : Nat := bitField b 4 4

/-- `env_dir`, bit 3: 1 = increase. -/
def envIncreases (b : Byte) : Bool := b.getLsbD 3

/-- `env_period`, bits 2..0. -/
def envPeriod (b : Byte) : Nat := bitField b 0 3

/-- `dac_on` of channels 1, 2, 4: bits 7..3 not all zero (rules R143, R151). -/
def dacOn (b : Byte) : Bool := bitField b 3 5 != 0

/-! ### NR30, NR32 (rule R146) -/

/-- `NR30.dac`, bit 7, which is `dac_on` of channel 3. -/
def waveDac (b : Byte) : Bool := b.getLsbD 7

/-- `NR32.vol_code`, bits 6..5. -/
def volCode (b : Byte) : Nat := bitField b 5 2

/-! ### NRx3 and NRx4 (rules R144, R145) -/

/-- `trigger`, bit 7 of NRx4. -/
def triggers (b : Byte) : Bool := b.getLsbD 7

/-- `length_enable`, bit 6 of NRx4. -/
def lengthEnable (b : Byte) : Bool := b.getLsbD 6

/-- The period value `NRx4[2:0] ++ NRx3[7:0]` (rules R110, R151). -/
def periodOf (lo hi : Byte) : Nat := bitField hi 0 3 * 256 + lo.toNat

/-- `period(1)`. -/
def period1 (r : Regs) : Nat := periodOf r.nr13 r.nr14

/-- `period(2)`. -/
def period2 (r : Regs) : Nat := periodOf r.nr23 r.nr24

/-- `period(3)`. -/
def period3 (r : Regs) : Nat := periodOf r.nr33 r.nr34

/-! ### NR43 (rule R147) -/

/-- `NR43.ratio`, bits 2..0. -/
def noiseRatio (r : Regs) : Nat := bitField r.nr43 0 3

/-- `NR43.narrow`, bit 3. -/
def noiseNarrow (r : Regs) : Bool := r.nr43.getLsbD 3

/-- `NR43.shift`, bits 7..4. -/
def noiseShift (r : Regs) : Nat := bitField r.nr43 4 4

/-- `base_divisor` (rules R151, R372). -/
def baseDivisor (r : Regs) : Nat := if noiseRatio r = 0 then 8 else 16 * noiseRatio r

/-! ### The four channels -/

/-- The channels of rule R15. -/
inductive Channel where
  | ch1 | ch2 | ch3 | ch4
deriving DecidableEq, Repr

/-- `reload(c)` (rule R151). -/
def reload (c : Channel) (r : Regs) : Nat :=
  match c with
  | .ch1 => (Config.periodMod - period1 r) * Config.pulseTimerMul
  | .ch2 => (Config.periodMod - period2 r) * Config.pulseTimerMul
  | .ch3 => (Config.periodMod - period3 r) * Config.waveTimerMul
  | .ch4 => baseDivisor r <<< noiseShift r

/-- `len_en(c)` (rule R151). -/
def lenEn (c : Channel) (r : Regs) : Bool :=
  match c with
  | .ch1 => lengthEnable r.nr14
  | .ch2 => lengthEnable r.nr24
  | .ch3 => lengthEnable r.nr34
  | .ch4 => lengthEnable r.nr44

/-! ### NR50, NR51 (rule R148) -/

/-- `NR50.vol_l`, bits 6..4. -/
def volLeft (r : Regs) : Nat := bitField r.nr50 4 3

/-- `NR50.vol_r`, bits 2..0. -/
def volRight (r : Regs) : Nat := bitField r.nr50 0 3

/-- `NR51.pan_lc`: channel c feeds the left bus. -/
def panLeft (c : Channel) (r : Regs) : Bool :=
  match c with
  | .ch1 => r.nr51.getLsbD 4
  | .ch2 => r.nr51.getLsbD 5
  | .ch3 => r.nr51.getLsbD 6
  | .ch4 => r.nr51.getLsbD 7

/-- `NR51.pan_rc`: channel c feeds the right bus. -/
def panRight (c : Channel) (r : Regs) : Bool :=
  match c with
  | .ch1 => r.nr51.getLsbD 0
  | .ch2 => r.nr51.getLsbD 1
  | .ch3 => r.nr51.getLsbD 2
  | .ch4 => r.nr51.getLsbD 3

/-! ### The table parameters (rule R9): their types, and the spec's defaults -/

/-- A value of `READ_MASK`: one byte per stored register, a 1 forcing that bit to read 1. -/
abbrev ReadMask := Reg → Byte

/-- The default `READ_MASK` (rule R150, decision D12, log entry 3). -/
def readMask : ReadMask
  | .nr10 => 0x80#8
  | .nr11 => 0x3F#8
  | .nr12 => 0x00#8
  | .nr13 => 0xFF#8
  | .nr14 => 0xBF#8
  | .nr21 => 0x3F#8
  | .nr22 => 0x00#8
  | .nr23 => 0xFF#8
  | .nr24 => 0xBF#8
  | .nr30 => 0x7F#8
  | .nr31 => 0xFF#8
  | .nr32 => 0x9F#8
  | .nr33 => 0xFF#8
  | .nr34 => 0xBF#8
  | .nr41 => 0xFF#8
  | .nr42 => 0x00#8
  | .nr43 => 0x00#8
  | .nr44 => 0xBF#8
  | .nr50 => 0x00#8
  | .nr51 => 0x00#8

/-- The masked read of a stored register (rule R202). -/
def readReg (mask : ReadMask) (n : Reg) (r : Regs) : Byte := r.get n ||| mask n

/-- A value of `DUTY_TABLE`: four rows of eight bits, indexed by duty and phase (rule R331). -/
abbrev DutyTable := Fin 4 → Fin 8 → Bool

/-- The rows of the default `DUTY_TABLE`: row = duty, column = phase. -/
def dutyRows : List (List Nat) :=
  [ [0, 0, 0, 0, 0, 0, 0, 1]
  , [1, 0, 0, 0, 0, 0, 0, 1]
  , [1, 0, 0, 0, 0, 1, 1, 1]
  , [0, 1, 1, 1, 1, 1, 1, 0] ]

/-- The default `DUTY_TABLE` (rule R331, decision D13, log entry 13). -/
def dutyTable : DutyTable := fun d p => (dutyRows.getD d.val []).getD p.val 0 == 1

/-- `DUTY_TABLE[d][p]`, as the number 0 or 1. -/
def dutyBit (t : DutyTable) (d p : Nat) : Nat := (t (Fin.ofNat 4 d) (Fin.ofNat 8 p)).toNat

end Sys2Proof.Machine
end

