-- ==== Sys2Proof/Machine/Flags.lean ====
section
/-!
DEFINITION. The status flags (rule R50): `en1`..`en4`, the power bit, and the byte that NR52 reads
as (rules R149, R263). `swen` is written by the trigger of channel 1 alone and is computed here.
-/

namespace Sys2Proof.Machine

/-- `en` of a channel. -/
def enabled (c : Channel) (a : Apu) : Bool :=
  match c with
  | .ch1 => a.ch1.en
  | .ch2 => a.ch2.en
  | .ch3 => a.ch3.en
  | .ch4 => a.ch4.en

/-- `en` of a channel, written. -/
def setEnabled (c : Channel) (e : Bool) (a : Apu) : Apu :=
  match c with
  | .ch1 => a.withCh1 { a.ch1 with en := e }
  | .ch2 => a.withCh2 { a.ch2 with en := e }
  | .ch3 => a.withCh3 { a.ch3 with en := e }
  | .ch4 => a.withCh4 { a.ch4 with en := e }

/-- The DAC-disable event: a write that leaves the channel's DAC off clears `en`; turning the DAC on
sets nothing (rules R212, R222, R230, R242). -/
def disableUnless (on : Bool) (c : Channel) (a : Apu) : Apu := if on then a else setEnabled c false a

/-- `swen` as the trigger of channel 1 writes it (rule R305). -/
def sweepEnable (r : Regs) : Bool := decide (sweepPeriod r > 0) || decide (sweepShift r > 0)

/-- The byte `RD NR52` returns: `power ++ 0b111 ++ en4 ++ en3 ++ en2 ++ en1` (rule R263). -/
def statusByte (a : Apu) : Byte :=
  BitVec.ofBool a.power ++ 0b111#3 ++ BitVec.ofBool a.ch4.en ++ BitVec.ofBool a.ch3.en
    ++ BitVec.ofBool a.ch2.en ++ BitVec.ofBool a.ch1.en

/-- Power-off clears NR50, NR51 and the four `en` flags (rule R262). -/
def powerOff (a : Apu) : Apu :=
  setEnabled .ch4 false <| setEnabled .ch3 false <| setEnabled .ch2 false <| setEnabled .ch1 false <|
    storeReg .nr51 0x00#8 <| storeReg .nr50 0x00#8 <| a.withPower false

/-- Power-on restarts the frame sequencer (rule R262). -/
def powerOn (a : Apu) : Apu := (a.withPower true).withFs { fst := 0, fss := 0 }

/-- `PowerWrite(v)` (rule R262); bits 6..0 of `v` are ignored. -/
def powerWrite (v : Byte) (a : Apu) : Apu :=
  if v.getLsbD 7 = false then powerOff a
  else if a.power = false then powerOn a
  else a

end Sys2Proof.Machine
end

