-- ==== Sys2Proof/Machine/Modulation.lean ====
section
/-!
DEFINITION. What the frame sequencer clocks in more than one channel: the length counters (rule
R308) and the volume envelopes (rule R312); and the loading of a length counter (rule R152).
-/

namespace Sys2Proof.Machine

/-- One step of a length counter `len` under its length-enable bit, with the channel's `en` (rule
R308): reaching 0 disables the channel; a counter at 0 stays there. -/
def lengthDown (on : Bool) (len : Nat) (en : Bool) : Nat × Bool :=
  if on = true ∧ len > 0 then (len - 1, if len - 1 = 0 then false else en) else (len, en)

/-- `LengthStep(c)` (rule R308). -/
def lengthStep (c : Channel) (a : Apu) : Apu :=
  match c with
  | .ch1 =>
    let r := lengthDown (lenEn .ch1 a.regs) a.ch1.len a.ch1.en
    a.withCh1 { a.ch1 with len := r.1, en := r.2 }
  | .ch2 =>
    let r := lengthDown (lenEn .ch2 a.regs) a.ch2.len a.ch2.en
    a.withCh2 { a.ch2 with len := r.1, en := r.2 }
  | .ch3 =>
    let r := lengthDown (lenEn .ch3 a.regs) a.ch3.len a.ch3.en
    a.withCh3 { a.ch3 with len := r.1, en := r.2 }
  | .ch4 =>
    let r := lengthDown (lenEn .ch4 a.regs) a.ch4.len a.ch4.en
    a.withCh4 { a.ch4 with len := r.1, en := r.2 }

/-- One volume step, clamped to 0..15 (rules R312, R443). -/
def volumeStep (up : Bool) (vol : Nat) : Nat :=
  if up then min (vol + 1) Config.volMax else max vol 1 - 1

/-- One step of an envelope timer `et` and volume `vol` under the live byte `b` of NRx2 (rule R312):
a timer already at 0 counts as expired at this step. -/
def envelopeDown (b : Byte) (et vol : Nat) : Nat × Nat :=
  if envPeriod b = 0 then (et, vol) else
  let e := if et > 0 then et - 1 else et
  if e = 0 then (envPeriod b, volumeStep (envIncreases b) vol) else (e, vol)

/-- `EnvelopeStep(1)` (rule R312). -/
def envelopeStep1 (a : Apu) : Apu :=
  let r := envelopeDown a.regs.nr12 a.ch1.et a.ch1.vol
  a.withCh1 { a.ch1 with et := r.1, vol := r.2 }

/-- `EnvelopeStep(2)` (rule R312). -/
def envelopeStep2 (a : Apu) : Apu :=
  let r := envelopeDown a.regs.nr22 a.ch2.et a.ch2.vol
  a.withCh2 { a.ch2 with et := r.1, vol := r.2 }

/-- `EnvelopeStep(4)` (rule R312). -/
def envelopeStep4 (a : Apu) : Apu :=
  let r := envelopeDown a.regs.nr42 a.ch4.et a.ch4.vol
  a.withCh4 { a.ch4 with et := r.1, vol := r.2 }

/-- A length counter reloaded by a trigger: only a counter at 0 is, to its maximum (rule R305). -/
def lengthAtTrigger (len full : Nat) : Nat := if len = 0 then full else len

/-- A frequency timer decremented for one cycle, never below 0 (rules R302, R342, R374). -/
def timerDown (ft : Nat) : Nat := if ft > 0 then ft - 1 else ft

end Sys2Proof.Machine
end

