-- ==== Sys2Proof/Machine/Control.lean ====
section
/-!
DEFINITION. The meanings of the bus operations on the control registers NR50, NR51 and NR52
(spec/40_bus_operations.md section 6). `PowerWrite` stands in Machine/Flags.lean.
-/

namespace Sys2Proof.Machine

/-- Rule R250. -/
def writeNr50 (v : Byte) (a : Apu) : Apu := storeReg .nr50 v a

/-- Rule R251. -/
def writeNr51 (v : Byte) (a : Apu) : Apu := storeReg .nr51 v a

/-- `WR_NR50` (rule R250). -/
def execWrNr50 (v : Byte) (s : State) : StepResult := changes (gated (writeNr50 v)) s

/-- `WR_NR51` (rule R251). -/
def execWrNr51 (v : Byte) (s : State) : StepResult := changes (gated (writeNr51 v)) s

/-- `WR_NR52` (rule R262). -/
def execWrNr52 (v : Byte) (s : State) : StepResult := changes (powerWrite v) s

/-- `RD_NR50` (rule R255). -/
def execRdNr50 (s : State) : StepResult := answers (fun a => .byte (readReg readMask .nr50 a.regs)) s

/-- `RD_NR51` (rule R256). -/
def execRdNr51 (s : State) : StepResult := answers (fun a => .byte (readReg readMask .nr51 a.regs)) s

/-- `RD_NR52` (rule R263). -/
def execRdNr52 (s : State) : StepResult := answers (fun a => .byte (statusByte a)) s

end Sys2Proof.Machine
end

