-- ==== Sys2Proof/Machine/Pulse.lean ====
section
/-!
DEFINITION. Pulse channels A and B (spec/41_pulse.md): frequency timer and phase, trigger, sweep,
output; and the meanings of the bus operations on NR10..NR14 and NR21..NR24
(spec/40_bus_operations.md sections 2 and 3).
-/

namespace Sys2Proof.Machine

/-! ### Frequency timer and phase (rule R302) -/

/-- The timer of a pulse channel for one cycle: on expiry it reloads and the phase advances modulo
8. It is not gated by `en`. -/
def pulseTimer (full : Nat) (p : Pulse) : Pulse :=
  if timerDown p.ft = 0 then { p with ft := full, ph := p.ph + 1 } else { p with ft := timerDown p.ft }

/-- `TimerStep(1)`. -/
def timerStep1 (a : Apu) : Apu := a.withCh1 (pulseTimer (reload .ch1 a.regs) a.ch1)

/-- `TimerStep(2)`. -/
def timerStep2 (a : Apu) : Apu := a.withCh2 (pulseTimer (reload .ch2 a.regs) a.ch2)

/-! ### Trigger (rule R305) -/

/-- What a trigger does to a pulse channel with envelope byte `b` and reload value `full`; the phase
is not changed. -/
def pulseTrigger (b : Byte) (full : Nat) (p : Pulse) : Pulse :=
  { p with
    en := true
    len := lengthAtTrigger p.len Config.shortLenMax
    ft := full
    et := envPeriod b
    vol := envVolume b }

/-- What a trigger of channel 1 leaves in the sweep unit; no sweep calculation happens here (rule
R322). -/
def sweepAtTrigger (r : Regs) : Sweep :=
  { swt := sweepReload r, shadow := period1 r, swen := sweepEnable r }

/-- `Trigger(1)`. -/
def trigger1 (a : Apu) : Apu :=
  (a.withCh1 (pulseTrigger a.regs.nr12 (reload .ch1 a.regs) a.ch1)).withSweep (sweepAtTrigger a.regs)

/-- `Trigger(2)`. -/
def trigger2 (a : Apu) : Apu :=
  a.withCh2 (pulseTrigger a.regs.nr22 (reload .ch2 a.regs) a.ch2)

/-! ### Frequency sweep (rules R320 to R322, R442) -/

/-- The candidate frequency `shadow ± (shadow >> shift)`, on naturals. -/
def sweepNew (r : Regs) (shadow : Nat) : Nat :=
  if sweepSubtracts r then shadow - shadow >>> sweepShift r else shadow + shadow >>> sweepShift r

/-- The write-back of a candidate that does not overflow: `shadow`, NR13 and NR14 bits 2..0. -/
def sweepWriteBack (new : Nat) (a : Apu) : Apu :=
  storeReg .nr14 (a.regs.nr14.extractLsb' 3 5 ++ BitVec.ofNat 3 (new / 256)) <|
    storeReg .nr13 (BitVec.ofNat 8 new) <| a.withSweep { a.sweep with shadow := new }

/-- `SweepStep` (rule R320). -/
def sweepStep (a : Apu) : Apu :=
  if a.sweep.swen = false then a
  else if timerDown a.sweep.swt ≠ 0 then
    a.withSweep { a.sweep with swt := timerDown a.sweep.swt }
  else
    let b := a.withSweep { a.sweep with swt := sweepReload a.regs }
    if sweepPeriod a.regs = 0 then b
    else if sweepNew a.regs a.sweep.shadow ≥ Config.periodMod then setEnabled .ch1 false b
    else sweepWriteBack (sweepNew a.regs a.sweep.shadow) b

/-! ### Output (rule R330) -/

/-- `Out(c)` of a pulse channel with duty/length byte `b`, under the table `t`. -/
def pulseOut (t : DutyTable) (b : Byte) (p : Pulse) : Nat :=
  if p.en then dutyBit t (duty b) p.ph.val * p.vol else 0

/-! ### Writes, channel 1 -/

/-- Rule R210. -/
def writeNr10 (v : Byte) (a : Apu) : Apu := storeReg .nr10 v a

/-- Rule R211. -/
def writeNr11 (v : Byte) (a : Apu) : Apu :=
  (storeReg .nr11 v a).withCh1 { a.ch1 with len := shortLength v }

/-- Rule R212. -/
def writeNr12 (v : Byte) (a : Apu) : Apu := disableUnless (dacOn v) .ch1 (storeReg .nr12 v a)

/-- Rule R213. -/
def writeNr13 (v : Byte) (a : Apu) : Apu := storeReg .nr13 v a

/-- Rule R214: the byte is stored first, then the trigger runs. -/
def writeNr14 (v : Byte) (a : Apu) : Apu :=
  if triggers v then trigger1 (storeReg .nr14 v a) else storeReg .nr14 v a

/-! ### Writes, channel 2 -/

/-- Rule R221. -/
def writeNr21 (v : Byte) (a : Apu) : Apu :=
  (storeReg .nr21 v a).withCh2 { a.ch2 with len := shortLength v }

/-- Rule R222. -/
def writeNr22 (v : Byte) (a : Apu) : Apu := disableUnless (dacOn v) .ch2 (storeReg .nr22 v a)

/-- Rule R223. -/
def writeNr23 (v : Byte) (a : Apu) : Apu := storeReg .nr23 v a

/-- Rule R224. -/
def writeNr24 (v : Byte) (a : Apu) : Apu :=
  if triggers v then trigger2 (storeReg .nr24 v a) else storeReg .nr24 v a

/-! ### Meanings -/

/-- `WR_NR10` (rule R210). -/
def execWrNr10 (v : Byte) (s : State) : StepResult := changes (gated (writeNr10 v)) s

/-- `WR_NR11` (rule R211). -/
def execWrNr11 (v : Byte) (s : State) : StepResult := changes (gated (writeNr11 v)) s

/-- `WR_NR12` (rule R212). -/
def execWrNr12 (v : Byte) (s : State) : StepResult := changes (gated (writeNr12 v)) s

/-- `WR_NR13` (rule R213). -/
def execWrNr13 (v : Byte) (s : State) : StepResult := changes (gated (writeNr13 v)) s

/-- `WR_NR14` (rule R214). -/
def execWrNr14 (v : Byte) (s : State) : StepResult := changes (gated (writeNr14 v)) s

/-- `WR_NR21` (rule R221). -/
def execWrNr21 (v : Byte) (s : State) : StepResult := changes (gated (writeNr21 v)) s

/-- `WR_NR22` (rule R222). -/
def execWrNr22 (v : Byte) (s : State) : StepResult := changes (gated (writeNr22 v)) s

/-- `WR_NR23` (rule R223). -/
def execWrNr23 (v : Byte) (s : State) : StepResult := changes (gated (writeNr23 v)) s

/-- `WR_NR24` (rule R224). -/
def execWrNr24 (v : Byte) (s : State) : StepResult := changes (gated (writeNr24 v)) s

/-- `RD_NR10` (rule R215). -/
def execRdNr10 (s : State) : StepResult := answers (fun a => .byte (readReg readMask .nr10 a.regs)) s

/-- `RD_NR11` (rule R216). -/
def execRdNr11 (s : State) : StepResult := answers (fun a => .byte (readReg readMask .nr11 a.regs)) s

/-- `RD_NR12` (rule R217). -/
def execRdNr12 (s : State) : StepResult := answers (fun a => .byte (readReg readMask .nr12 a.regs)) s

/-- `RD_NR13` (rule R218). -/
def execRdNr13 (s : State) : StepResult := answers (fun a => .byte (readReg readMask .nr13 a.regs)) s

/-- `RD_NR14` (rule R219). -/
def execRdNr14 (s : State) : StepResult := answers (fun a => .byte (readReg readMask .nr14 a.regs)) s

/-- `RD_NR21` (rule R226). -/
def execRdNr21 (s : State) : StepResult := answers (fun a => .byte (readReg readMask .nr21 a.regs)) s

/-- `RD_NR22` (rule R227). -/
def execRdNr22 (s : State) : StepResult := answers (fun a => .byte (readReg readMask .nr22 a.regs)) s

/-- `RD_NR23` (rule R228). -/
def execRdNr23 (s : State) : StepResult := answers (fun a => .byte (readReg readMask .nr23 a.regs)) s

/-- `RD_NR24` (rule R229). -/
def execRdNr24 (s : State) : StepResult := answers (fun a => .byte (readReg readMask .nr24 a.regs)) s

end Sys2Proof.Machine
end

