-- ==== Sys2Proof/Machine/FrameSequencer.lean ====
section
/-!
DEFINITION. The frame sequencer (spec/44_frame_sequencer.md): the step table and the divider.
-/

namespace Sys2Proof.Machine

/-- The four length steps, in the order of rule R404. -/
def lengthSteps (a : Apu) : Apu :=
  lengthStep .ch4 (lengthStep .ch3 (lengthStep .ch2 (lengthStep .ch1 a)))

/-- The three envelope steps, in the order of rule R404. -/
def envelopeSteps (a : Apu) : Apu := envelopeStep4 (envelopeStep2 (envelopeStep1 a))

/-- `FsStep(k)`, the step-to-action table (rule R404). -/
def fsStep (k : Fin 8) (a : Apu) : Apu :=
  match k with
  | 0 => lengthSteps a
  | 1 => a
  | 2 => sweepStep (lengthSteps a)
  | 3 => a
  | 4 => lengthSteps a
  | 5 => a
  | 6 => sweepStep (lengthSteps a)
  | 7 => envelopeSteps a

/-- `FsTick` (rule R402): the step acts on the current step number, which then advances. -/
def fsTick (a : Apu) : Apu :=
  if a.fs.fst + 1 = Config.fsPeriod then
    (fsStep a.fs.fss a).withFs { fst := 0, fss := a.fs.fss + 1 }
  else a.withFs { a.fs with fst := a.fs.fst + 1 }

end Sys2Proof.Machine
end

