-- ==== Sys2Proof/Machine/Noise.lean ====
section
/-!
DEFINITION. The noise channel (spec/43_noise.md): shift register, frequency timer, trigger, output;
and the meanings of the bus operations on NR41..NR44 (spec/40_bus_operations.md section 5).
-/

namespace Sys2Proof.Machine

/-! ### Shift register (rules R380, R446) -/

/-- The bit `LfsrStep` inserts: bit 0 xor bit 1, taken before the shift. -/
def lfsrFeedback (l : LfsrWord) : Bool := l.getLsbD 0 ^^ l.getLsbD 1

/-- `LfsrStep`: shift right by 1, the feedback enters at bit 14 and, in narrow mode, also replaces
bit 6. The all-zero register is a state like any other (rule R385). -/
def lfsrNext (narrow : Bool) (l : LfsrWord) : LfsrWord :=
  let x := BitVec.ofBool (lfsrFeedback l)
  let shifted : LfsrWord := x ++ l.extractLsb' 1 14
  if narrow then shifted.extractLsb' 7 8 ++ x ++ shifted.extractLsb' 0 6 else shifted

/-! ### Frequency timer (rule R374) -/

/-- The timer of the noise channel for one cycle: on expiry the shift register steps. -/
def noiseTimer (narrow : Bool) (full : Nat) (n : Noise) : Noise :=
  if timerDown n.ft = 0 then { n with ft := full, lfsr := lfsrNext narrow n.lfsr }
  else { n with ft := timerDown n.ft }

/-- `TimerStep(4)`. -/
def timerStep4 (a : Apu) : Apu :=
  a.withCh4 (noiseTimer (noiseNarrow a.regs) (reload .ch4 a.regs) a.ch4)

/-! ### Trigger (rule R375) -/

/-- What a trigger does to the noise channel with envelope byte `b`. -/
def noiseTrigger (b : Byte) (full : Nat) (n : Noise) : Noise where
  en := true
  ft := full
  lfsr := Config.lfsrSeed
  len := lengthAtTrigger n.len Config.shortLenMax
  et := envPeriod b
  vol := envVolume b

/-- `Trigger4`. -/
def trigger4 (a : Apu) : Apu :=
  a.withCh4 (noiseTrigger a.regs.nr42 (reload .ch4 a.regs) a.ch4)

/-! ### Output (rule R390) -/

/-- `Out(4)`: the volume while bit 0 of the shift register is 0. -/
def noiseOut (n : Noise) : Nat := if n.en && !n.lfsr.getLsbD 0 then n.vol else 0

/-! ### Writes -/

/-- Rule R241. -/
def writeNr41 (v : Byte) (a : Apu) : Apu :=
  (storeReg .nr41 v a).withCh4 { a.ch4 with len := shortLength v }

/-- Rule R242. -/
def writeNr42 (v : Byte) (a : Apu) : Apu := disableUnless (dacOn v) .ch4 (storeReg .nr42 v a)

/-- Rule R243. -/
def writeNr43 (v : Byte) (a : Apu) : Apu := storeReg .nr43 v a

/-- Rule R244. -/
def writeNr44 (v : Byte) (a : Apu) : Apu :=
  if triggers v then trigger4 (storeReg .nr44 v a) else storeReg .nr44 v a

/-! ### Meanings -/

/-- `WR_NR41` (rule R241). -/
def execWrNr41 (v : Byte) (s : State) : StepResult := changes (gated (writeNr41 v)) s

/-- `WR_NR42` (rule R242). -/
def execWrNr42 (v : Byte) (s : State) : StepResult := changes (gated (writeNr42 v)) s

/-- `WR_NR43` (rule R243). -/
def execWrNr43 (v : Byte) (s : State) : StepResult := changes (gated (writeNr43 v)) s

/-- `WR_NR44` (rule R244). -/
def execWrNr44 (v : Byte) (s : State) : StepResult := changes (gated (writeNr44 v)) s

/-- `RD_NR41` (rule R246). -/
def execRdNr41 (s : State) : StepResult := answers (fun a => .byte (readReg readMask .nr41 a.regs)) s

/-- `RD_NR42` (rule R247). -/
def execRdNr42 (s : State) : StepResult := answers (fun a => .byte (readReg readMask .nr42 a.regs)) s

/-- `RD_NR43` (rule R248). -/
def execRdNr43 (s : State) : StepResult := answers (fun a => .byte (readReg readMask .nr43 a.regs)) s

/-- `RD_NR44` (rule R249). -/
def execRdNr44 (s : State) : StepResult := answers (fun a => .byte (readReg readMask .nr44 a.regs)) s

end Sys2Proof.Machine
end

