-- ==== Sys2Proof/Machine/Wave.lean ====
section
/-!
DEFINITION. The wave channel (spec/42_wave.md): frequency timer and phase, trigger, output; and the
meanings of the bus operations on NR30..NR34 and on the wave RAM (spec/40_bus_operations.md
sections 4 and 7).
-/

namespace Sys2Proof.Machine

/-! ### Frequency timer and phase (rule R342) -/

/-- The timer of the wave channel for one cycle, whatever `en3` and the DAC bit are. -/
def waveTimer (full : Nat) (w : Wave) : Wave :=
  if timerDown w.ft = 0 then { w with ft := full, ph := w.ph + 1 } else { w with ft := timerDown w.ft }

/-- `TimerStep(3)`. -/
def timerStep3 (a : Apu) : Apu := a.withCh3 (waveTimer (reload .ch3 a.regs) a.ch3)

/-! ### Trigger (rule R345) -/

/-- What a trigger with the DAC on does to the wave channel. -/
def waveTrigger (full : Nat) (w : Wave) : Wave :=
  { en := true, ft := full, ph := 0, len := lengthAtTrigger w.len Config.waveLenMax }

/-- `Trigger3`: with the DAC off the whole trigger is skipped. -/
def trigger3 (a : Apu) : Apu :=
  if waveDac a.regs.nr30 then a.withCh3 (waveTrigger (reload .ch3 a.regs) a.ch3) else a

/-! ### Output (rule R350) -/

/-- Sample `k` of the table: high nibble first (rule R33). -/
def waveSample (m : Memory) (k : Nat) : Nat :=
  if k % 2 = 0 then bitField (waveByte m (k / 2)) 4 4 else bitField (waveByte m (k / 2)) 0 4

/-- The volume code applied to a sample: mute, full, half, quarter (rules R146, R350). -/
def waveVolume (code sample : Nat) : Nat := if code = 0 then 0 else sample >>> (code - 1)

/-- `Out(3)`. -/
def waveOut (a : Apu) : Nat :=
  if a.ch3.en && waveDac a.regs.nr30 then
    waveVolume (volCode a.regs.nr32) (waveSample a.mem a.ch3.ph.val)
  else 0

/-! ### Writes -/

/-- Rule R230. -/
def writeNr30 (v : Byte) (a : Apu) : Apu := disableUnless (waveDac v) .ch3 (storeReg .nr30 v a)

/-- Rule R231. -/
def writeNr31 (v : Byte) (a : Apu) : Apu :=
  (storeReg .nr31 v a).withCh3 { a.ch3 with len := waveLength v }

/-- Rule R232. -/
def writeNr32 (v : Byte) (a : Apu) : Apu := storeReg .nr32 v a

/-- Rule R233. -/
def writeNr33 (v : Byte) (a : Apu) : Apu := storeReg .nr33 v a

/-- Rule R234. -/
def writeNr34 (v : Byte) (a : Apu) : Apu :=
  if triggers v then trigger3 (storeReg .nr34 v a) else storeReg .nr34 v a

/-! ### Meanings -/

/-- `WR_NR30` (rule R230). -/
def execWrNr30 (v : Byte) (s : State) : StepResult := changes (gated (writeNr30 v)) s

/-- `WR_NR31` (rule R231). -/
def execWrNr31 (v : Byte) (s : State) : StepResult := changes (gated (writeNr31 v)) s

/-- `WR_NR32` (rule R232). -/
def execWrNr32 (v : Byte) (s : State) : StepResult := changes (gated (writeNr32 v)) s

/-- `WR_NR33` (rule R233). -/
def execWrNr33 (v : Byte) (s : State) : StepResult := changes (gated (writeNr33 v)) s

/-- `WR_NR34` (rule R234). -/
def execWrNr34 (v : Byte) (s : State) : StepResult := changes (gated (writeNr34 v)) s

/-- `RD_NR30` (rule R235). -/
def execRdNr30 (s : State) : StepResult := answers (fun a => .byte (readReg readMask .nr30 a.regs)) s

/-- `RD_NR31` (rule R236). -/
def execRdNr31 (s : State) : StepResult := answers (fun a => .byte (readReg readMask .nr31 a.regs)) s

/-- `RD_NR32` (rule R237). -/
def execRdNr32 (s : State) : StepResult := answers (fun a => .byte (readReg readMask .nr32 a.regs)) s

/-- `RD_NR33` (rule R238). -/
def execRdNr33 (s : State) : StepResult := answers (fun a => .byte (readReg readMask .nr33 a.regs)) s

/-- `RD_NR34` (rule R239). -/
def execRdNr34 (s : State) : StepResult := answers (fun a => .byte (readReg readMask .nr34 a.regs)) s

/-- `WR_WAVE` (rule R270): gated by `power`, not by `en3`. -/
def execWrWave (k : BitVec 4) (v : Byte) (s : State) : StepResult := changes (gated (storeWave k.toNat v)) s

/-- `RD_WAVE` (rule R271): no mask, whatever `en3` and `ph3` are. -/
def execRdWave (k : BitVec 4) (s : State) : StepResult := answers (fun a => .byte (waveByte a.mem k.toNat)) s

end Sys2Proof.Machine
end

