-- ==== Sys2Proof/Machine/Mixer.lean ====
section
/-!
DEFINITION. The mixer/control unit (spec/45_mixer_tick_sample.md): `TICK`, `SAMPLE`, the normalised
frame.
-/

namespace Sys2Proof.Machine

/-! ### TICK (rules R424, R426) -/

/-- The four timer steps of one cycle. -/
def timerSteps (a : Apu) : Apu := timerStep4 (timerStep3 (timerStep2 (timerStep1 a)))

/-- One master-clock cycle: nothing while powered off; the frame sequencer before the timers. -/
def tick (a : Apu) : Apu := if a.power then timerSteps (fsTick a) else a

/-- `ADVANCE n` (rule R426): `tick` applied `n` times. -/
def advance : Nat → Apu → Apu
  | 0, a => a
  | n + 1, a => advance n (tick a)

/-! ### SAMPLE (rules R430, R445) -/

/-- `Out(c)`, under the duty table `t`. -/
def out (t : DutyTable) (c : Channel) (a : Apu) : Nat :=
  match c with
  | .ch1 => pulseOut t a.regs.nr11 a.ch1
  | .ch2 => pulseOut t a.regs.nr21 a.ch2
  | .ch3 => waveOut a
  | .ch4 => noiseOut a.ch4

/-- One term of a bus sum. -/
def routed (on : Bool) (x : Nat) : Nat := if on then x else 0

/-- `bus_l`. -/
def busLeft (t : DutyTable) (a : Apu) : Nat :=
  routed (panLeft .ch1 a.regs) (out t .ch1 a) + routed (panLeft .ch2 a.regs) (out t .ch2 a)
    + routed (panLeft .ch3 a.regs) (out t .ch3 a) + routed (panLeft .ch4 a.regs) (out t .ch4 a)

/-- `bus_r`. -/
def busRight (t : DutyTable) (a : Apu) : Nat :=
  routed (panRight .ch1 a.regs) (out t .ch1 a) + routed (panRight .ch2 a.regs) (out t .ch2 a)
    + routed (panRight .ch3 a.regs) (out t .ch3 a) + routed (panRight .ch4 a.regs) (out t .ch4 a)

/-- The pair `(out_l, out_r)`, under the duty table `t`; silence while powered off. -/
def samplePair (t : DutyTable) (a : Apu) : Nat × Nat :=
  if a.power then (busLeft t a * (volLeft a.regs + 1), busRight t a * (volRight a.regs + 1))
  else (0, 0)

/-- The answer of a `SAMPLE`. -/
def sampleAnswer (t : DutyTable) (a : Apu) : Response := .frame (samplePair t a).1 (samplePair t a).2

/-- The normalised frame for a `HEADROOM` of `h`, an exact rational pair (rule R432); no state reads
it. -/
def normalised (t : DutyTable) (h : Nat) (a : Apu) : Rat × Rat :=
  (((samplePair t a).1 : Rat) / h, ((samplePair t a).2 : Rat) / h)

/-! ### Meanings -/

/-- `TICK` (rule R424). -/
def execTick (s : State) : StepResult := changes tick s

/-- `SAMPLE` (rule R430). -/
def execSample (s : State) : StepResult := answers (sampleAnswer dutyTable) s

end Sys2Proof.Machine
end

