-- ==== Sys2Proof/Machine/Unmapped.lean ====
section
/-!
DEFINITION. The meanings of the bus operations on unmapped addresses (spec/40_bus_operations.md
section 8): a write changes nothing, whatever `power` is, and a read returns the open bus value.
-/

namespace Sys2Proof.Machine

/-- A write that no register or RAM byte receives (rules R105, R280). -/
def writeNowhere (a : Apu) : Apu := a

/-- A read that nothing answers (rules R105, R281). -/
def openBusAnswer (_ : Apu) : Response := .byte Config.openBus

/-- `WR_HOLE15` (rule R280). -/
def execWrHole15 (_ : Byte) (s : State) : StepResult := changes writeNowhere s

/-- `RD_HOLE15` (rule R281). -/
def execRdHole15 (s : State) : StepResult := answers openBusAnswer s

/-- `WR_HOLE1F` (rule R280). -/
def execWrHole1F (_ : Byte) (s : State) : StepResult := changes writeNowhere s

/-- `RD_HOLE1F` (rule R281). -/
def execRdHole1F (s : State) : StepResult := answers openBusAnswer s

/-- `WR_HOLE27` (rule R280). -/
def execWrHole27 (_ : Byte) (s : State) : StepResult := changes writeNowhere s

/-- `RD_HOLE27` (rule R281). -/
def execRdHole27 (s : State) : StepResult := answers openBusAnswer s

/-- `WR_HOLE28_2F` (rule R280). -/
def execWrHole28_2F (_ : BitVec 3) (_ : Byte) (s : State) : StepResult := changes writeNowhere s

/-- `RD_HOLE28_2F` (rule R281). -/
def execRdHole28_2F (_ : BitVec 3) (s : State) : StepResult := answers openBusAnswer s

/-- `WR_UNMAPPED` (rule R280). -/
def execWrUnmapped (_ : Addr) (_ : Byte) (s : State) : StepResult := changes writeNowhere s

/-- `RD_UNMAPPED` (rule R281). -/
def execRdUnmapped (_ : Addr) (s : State) : StepResult := answers openBusAnswer s

end Sys2Proof.Machine
end

