-- ==== Sys2Proof/Machine/Dispatch.lean ====
section
/-! DEFINITION. One arm per operation of spec/opcode_table.json, in the table's order. -/

namespace Sys2Proof.Machine

def exec (i : Instr) (s : State) : Host.Outcome State Fault Refusal :=
  match i with
  | .tick => Sys2Proof.Machine.execTick s
  | .sample => Sys2Proof.Machine.execSample s
  | .wrNr10 v => Sys2Proof.Machine.execWrNr10 v s
  | .wrNr11 v => Sys2Proof.Machine.execWrNr11 v s
  | .wrNr12 v => Sys2Proof.Machine.execWrNr12 v s
  | .wrNr13 v => Sys2Proof.Machine.execWrNr13 v s
  | .wrNr14 v => Sys2Proof.Machine.execWrNr14 v s
  | .wrNr21 v => Sys2Proof.Machine.execWrNr21 v s
  | .wrNr22 v => Sys2Proof.Machine.execWrNr22 v s
  | .wrNr23 v => Sys2Proof.Machine.execWrNr23 v s
  | .wrNr24 v => Sys2Proof.Machine.execWrNr24 v s
  | .wrNr30 v => Sys2Proof.Machine.execWrNr30 v s
  | .wrNr31 v => Sys2Proof.Machine.execWrNr31 v s
  | .wrNr32 v => Sys2Proof.Machine.execWrNr32 v s
  | .wrNr33 v => Sys2Proof.Machine.execWrNr33 v s
  | .wrNr34 v => Sys2Proof.Machine.execWrNr34 v s
  | .wrNr41 v => Sys2Proof.Machine.execWrNr41 v s
  | .wrNr42 v => Sys2Proof.Machine.execWrNr42 v s
  | .wrNr43 v => Sys2Proof.Machine.execWrNr43 v s
  | .wrNr44 v => Sys2Proof.Machine.execWrNr44 v s
  | .wrNr50 v => Sys2Proof.Machine.execWrNr50 v s
  | .wrNr51 v => Sys2Proof.Machine.execWrNr51 v s
  | .wrNr52 v => Sys2Proof.Machine.execWrNr52 v s
  | .rdNr10 => Sys2Proof.Machine.execRdNr10 s
  | .rdNr11 => Sys2Proof.Machine.execRdNr11 s
  | .rdNr12 => Sys2Proof.Machine.execRdNr12 s
  | .rdNr13 => Sys2Proof.Machine.execRdNr13 s
  | .rdNr14 => Sys2Proof.Machine.execRdNr14 s
  | .rdNr21 => Sys2Proof.Machine.execRdNr21 s
  | .rdNr22 => Sys2Proof.Machine.execRdNr22 s
  | .rdNr23 => Sys2Proof.Machine.execRdNr23 s
  | .rdNr24 => Sys2Proof.Machine.execRdNr24 s
  | .rdNr30 => Sys2Proof.Machine.execRdNr30 s
  | .rdNr31 => Sys2Proof.Machine.execRdNr31 s
  | .rdNr32 => Sys2Proof.Machine.execRdNr32 s
  | .rdNr33 => Sys2Proof.Machine.execRdNr33 s
  | .rdNr34 => Sys2Proof.Machine.execRdNr34 s
  | .rdNr41 => Sys2Proof.Machine.execRdNr41 s
  | .rdNr42 => Sys2Proof.Machine.execRdNr42 s
  | .rdNr43 => Sys2Proof.Machine.execRdNr43 s
  | .rdNr44 => Sys2Proof.Machine.execRdNr44 s
  | .rdNr50 => Sys2Proof.Machine.execRdNr50 s
  | .rdNr51 => Sys2Proof.Machine.execRdNr51 s
  | .rdNr52 => Sys2Proof.Machine.execRdNr52 s
  | .wrWave k v => Sys2Proof.Machine.execWrWave k v s
  | .rdWave k => Sys2Proof.Machine.execRdWave k s
  | .wrHole15 v => Sys2Proof.Machine.execWrHole15 v s
  | .rdHole15 => Sys2Proof.Machine.execRdHole15 s
  | .wrHole1F v => Sys2Proof.Machine.execWrHole1F v s
  | .rdHole1F => Sys2Proof.Machine.execRdHole1F s
  | .wrHole27 v => Sys2Proof.Machine.execWrHole27 v s
  | .rdHole27 => Sys2Proof.Machine.execRdHole27 s
  | .wrHole28_2F k v => Sys2Proof.Machine.execWrHole28_2F k v s
  | .rdHole28_2F k => Sys2Proof.Machine.execRdHole28_2F k s
  | .wrUnmapped a v => Sys2Proof.Machine.execWrUnmapped a v s
  | .rdUnmapped a => Sys2Proof.Machine.execRdUnmapped a s

end Sys2Proof.Machine
end

