-- ==== Sys2Proof/Machine/Bus.lean ====
section
/-!
DEFINITION. The bus by address: `WR a, v` (rule R200) and `RD a` (rule R201) as one dispatch over
the whole 16-bit address space.
-/

namespace Sys2Proof.Machine

/-- The rule of the register a write reaches (spec/40_bus_operations.md sections 2 to 6), the power
gate left out. -/
def writeReg (n : Reg) (v : Byte) (a : Apu) : Apu :=
  match n with
  | .nr10 => writeNr10 v a
  | .nr11 => writeNr11 v a
  | .nr12 => writeNr12 v a
  | .nr13 => writeNr13 v a
  | .nr14 => writeNr14 v a
  | .nr21 => writeNr21 v a
  | .nr22 => writeNr22 v a
  | .nr23 => writeNr23 v a
  | .nr24 => writeNr24 v a
  | .nr30 => writeNr30 v a
  | .nr31 => writeNr31 v a
  | .nr32 => writeNr32 v a
  | .nr33 => writeNr33 v a
  | .nr34 => writeNr34 v a
  | .nr41 => writeNr41 v a
  | .nr42 => writeNr42 v a
  | .nr43 => writeNr43 v a
  | .nr44 => writeNr44 v a
  | .nr50 => writeNr50 v a
  | .nr51 => writeNr51 v a

/-- The address is one of the wave RAM, 0xFF30..0xFF3F. -/
def inWaveRam (a : Addr) : Bool :=
  decide (Config.waveBase ≤ a.toNat) && decide (a.toNat < Config.waveBase + Config.waveBytes)

/-- `WR a, v` (rule R200). -/
def busWrite (addr : Addr) (v : Byte) (a : Apu) : Apu :=
  if addr = Config.powerAddr then powerWrite v a
  else if a.power = false then a
  else match regAt addr with
    | some n => writeReg n v a
    | none => if inWaveRam addr then storeWave (addr.toNat - Config.waveBase) v a else a

/-- `RD a` (rule R201) under the read masks `mask`: the model's read of one byte of the address
space. -/
def busRead (mask : ReadMask) (addr : Addr) (a : Apu) : Byte :=
  if addr = Config.powerAddr then statusByte a
  else match regAt addr with
    | some n => readReg mask n a.regs
    | none =>
      if inWaveRam addr then waveByte a.mem (addr.toNat - Config.waveBase) else Config.openBus

end Sys2Proof.Machine
end

