-- ==== Sys2Proof/Machine/Params.lean ====
section
/-!
DEFINITION. The six parameters of rule R9 as one argument of the machine, their constraints, their
values in the spec, and the reset state they give. They are no state (rule R47) and never change.
-/

namespace Sys2Proof.Machine

/-- A value of every parameter (rule R9). -/
structure Params where
  /-- `CLK_HZ`: master cycles per second. -/
  clkHz : Nat
  /-- `DUTY_TABLE`. -/
  dutyTable : DutyTable
  /-- `READ_MASK`. -/
  readMask : ReadMask
  /-- `HEADROOM`. -/
  headroom : Nat
  /-- `RESET_POWER`. -/
  resetPower : Bool
  /-- `WAVE_RAM_INIT`: byte `k` for k below 16. -/
  waveRamInit : Nat → Byte

/-- The parameters of the machine `step` runs: the spec's defaults, and the free bytes of
`WAVE_RAM_INIT`, which has none (log entries 1, 2, 3, 6, 7, 13). -/
def Params.spec : Params where
  clkHz := Config.clkHz
  dutyTable := Machine.dutyTable
  readMask := Machine.readMask
  headroom := Config.headroom
  resetPower := Config.resetPower
  waveRamInit := Config.waveRamInit

/-- How many ones row `d` of a duty table has. -/
def dutyOnes (t : DutyTable) (d : Nat) : Nat := ((List.range 8).map (dutyBit t d)).sum

/-- What the spec asks of the parameters: `HEADROOM` is positive (rule R9), the rows of `DUTY_TABLE`
have 1, 2, 4 and 6 ones (rule R331). -/
def Params.wf (P : Params) : Bool :=
  decide (0 < P.headroom) && (List.range 4).map (dutyOnes P.dutyTable) == [1, 2, 4, 6]

/-- The reset state of the APU under `P` (rule R70). -/
def Apu.resetIn (P : Params) : Apu := Apu.resetWith P.waveRamInit P.resetPower

/-- The machine right after reset under `P`. -/
def State.resetIn (P : Params) : State where
  apu := Apu.resetIn P
  inputs := []
  response := .none

/-- How often a second something comes that comes every `cycles` master cycles (rules R9, R406). -/
def Params.rate (P : Params) (cycles : Nat) : Rat := (P.clkHz : Rat) / cycles

end Sys2Proof.Machine
end

