-- ==== Sys2Proof/Machine/Ports.lean ====
section
/-!
DEFINITION. The port-level machine: one rising edge of `clk` (rules R100, R102, R480; log entry 12).
-/

namespace Sys2Proof.Machine

/-- The output ports while the APU is in state `a` and `addr` is on the bus: `rdata`, `out_l` and
`out_r` are combinational (rule R100). -/
def portsOf (P : Params) (addr : Addr) (a : Apu) : Response :=
  .ports (busRead P.readMask addr a) (samplePair P.dutyTable a).1 (samplePair P.dutyTable a).2

/-- The bus write of a cycle, `W` of rule R102. -/
def edgeWrite (p : Pins) (a : Apu) : Apu := if p.we then busWrite p.addr p.wdata a else a

/-- One rising edge: with `rst` the reset state, whatever the other pins are (rule R480); with both
strobes no meaning; else the bus write, then that cycle's `TICK` (rule R102). The answer is what the
output ports showed before the edge, or the functions of the reset state while `rst` is 1. -/
def execClock (P : Params) (p : Pins) (s : State) : StepResult :=
  if p.rst then .next ((s.withApu (Apu.resetIn P)).withResponse (portsOf P p.addr (Apu.resetIn P)))
  else if p.we && p.re then .refused .readAndWriteTogether
  else .next ((s.withApu (tick (edgeWrite p s.apu))).withResponse (portsOf P p.addr s.apu))

end Sys2Proof.Machine
end

