-- ==== Sys2Proof/Machine/Step.lean ====
section
/-!
DEFINITION. One step: the oldest thing the host has presented (rules R103, R120), decoded and run.
The APU fetches no instructions (rule R60); what stands in the place of a fetch is taking the next
operation from `inputs` (log entry 4). The parameters stand at the spec's defaults here; Parametric.lean
has the step for every value of them.
-/

namespace Sys2Proof.Machine

/-- One step of the machine. -/
def step (s : State) : Host.Outcome State Fault Refusal :=
  match s.inputs with
  | [] => .refused .noInput
  | .op w :: rest => exec (decode w) (s.withInputs rest)
  | .clock p :: rest => execClock Params.spec p (s.withInputs rest)

/-- The state with the operation word `w` of the table's numbering (its low `nbits` bits) presented
before everything else; a number the decoder rejects is not presented (log entry 8). -/
def State.withFetchWord (s : State) (nbits w : Nat) : State :=
  if w % 2 ^ nbits < 2 ^ 26 then s.withInputs (.op (BitVec.ofNat 26 (w % 2 ^ nbits)) :: s.inputs)
  else s

end Sys2Proof.Machine
end

