-- ==== Sys2Proof/Machine/Parametric.lean ====
section
/-!
DEFINITION. The machine for every value of the parameters of rule R9, written over the bus by address
(rules R200, R201). At the spec's values it is `step`; the state it reaches depends on the parameters
only through reset.
-/

namespace Sys2Proof.Machine

/-- One operation word under the parameters `P` (rules R160, R200, R201, R424, R430). -/
def runWord (P : Params) (w : OpWord) (s : State) : StepResult :=
  if opKind w = 0#2 then changes tick s
  else if opKind w = 1#2 then answers (sampleAnswer P.dutyTable) s
  else if opKind w = 2#2 then answers (fun a => .byte (busRead P.readMask (opAddr w) a)) s
  else changes (busWrite (opAddr w) (opData w)) s

/-- One step of the machine under the parameters `P`. -/
def stepWith (P : Params) (s : State) : StepResult :=
  match s.inputs with
  | [] => .refused .noInput
  | .op w :: rest => runWord P w (s.withInputs rest)
  | .clock p :: rest => execClock P p (s.withInputs rest)

end Sys2Proof.Machine
end

