-- ==== Sys2Proof/Machine/Script.lean ====
section
/-!
DEFINITION. The pseudo-operations of rule R171 as lists of what the host presents. `EXPECT` is a
check of a result and no operation, so it has no place here.
-/

namespace Sys2Proof.Machine

/-- `WR a, v` as the host presents it (rule R170). -/
def presentWrite (a : Addr) (v : Byte) : Input := .op (opWord 3#2 a v)

/-- `RD a` as the host presents it. -/
def presentRead (a : Addr) : Input := .op (opWord 2#2 a 0#8)

/-- `TICK` as the host presents it. -/
def presentTick : Input := .op (opWord 0#2 0#16 0#8)

/-- `SAMPLE` as the host presents it. -/
def presentSample : Input := .op (opWord 1#2 0#16 0#8)

/-- `ADVANCE n`. -/
def scriptAdvance (n : Nat) : List Input := List.replicate n presentTick

/-- `POWER_ON`. -/
def scriptPowerOn : List Input := [presentWrite Config.powerAddr 0x80#8]

/-- `POWER_OFF`. -/
def scriptPowerOff : List Input := [presentWrite Config.powerAddr 0x00#8]

/-- The brace list of address and value pairs, in the written order. -/
def scriptWrites (l : List (Addr × Byte)) : List Input := l.map fun p => presentWrite p.1 p.2

/-- Presents a script after what the host has presented already. -/
def State.present (s : State) (l : List Input) : State := s.withInputs (s.inputs ++ l)

end Sys2Proof.Machine
end

