-- ==== Sys2Proof/Safety.lean ====
section
/-!
DEFINITION. What holds of every state a run from reset reaches (rule R55), as one predicate of the
APU, and what a safe run is. The shift register is not in it: the all-zero value is reachable and
defined (rules R55, R385).
-/

namespace Sys2Proof.Machine

/-- A pulse channel within its ranges (rule R55 items 1, 2, 3; rule R40). `active` is the inductive
form of item 7 (log entry 16): an enabled channel has a length counter that is not 0, whether or not
its length-enable bit is set. -/
structure Pulse.InRange (p : Pulse) : Prop where
  ft : p.ft ≤ 8192
  len : p.len ≤ 64
  et : p.et ≤ 7
  vol : p.vol ≤ 15
  active : p.en = true → 1 ≤ p.len

/-- The sweep unit within its ranges (rule R55 items 4 and 5). -/
structure Sweep.InRange (w : Sweep) : Prop where
  swt : w.swt ≤ 8
  shadow : w.shadow ≤ 2047
  running : w.swen = true → 1 ≤ w.swt

/-- The wave channel within its ranges (rule R55 items 2, 3 and 7). -/
structure Wave.InRange (w : Wave) : Prop where
  ft : w.ft ≤ 4096
  len : w.len ≤ 256
  active : w.en = true → 1 ≤ w.len

/-- The noise channel within its ranges (rule R55 items 1, 2, 3 and 7). -/
structure Noise.InRange (n : Noise) : Prop where
  ft : n.ft ≤ 3670016
  len : n.len ≤ 64
  et : n.et ≤ 7
  vol : n.vol ≤ 15
  active : n.en = true → 1 ≤ n.len

/-- The reachable-state invariant (rule R55): the ranges of every element, the canonical form of the
wave RAM, the frame sequencer's divider, an enabled wave channel has its DAC on (rule R350), and a
powered-off APU is silent (item 8). -/
structure Apu.Inv (a : Apu) : Prop where
  ch1 : a.ch1.InRange
  sweep : a.sweep.InRange
  ch2 : a.ch2.InRange
  ch3 : a.ch3.InRange
  ch4 : a.ch4.InRange
  fst : a.fs.fst ≤ 8191
  mem : a.mem.wf
  dac : a.ch3.en = true → waveDac a.regs.nr30 = true
  off : a.power = false → (a.ch1.en = false ∧ a.ch2.en = false ∧ a.ch3.en = false ∧ a.ch4.en = false)
    ∧ a.regs.nr50 = 0x00#8 ∧ a.regs.nr51 = 0x00#8

/-- The invariant of the machine: that of its APU. -/
def State.Inv (s : State) : Prop := s.apu.Inv

/-- A run of `k` steps is safe when every state it passes through meets the invariant and it stops
at no refusal other than the end of what the host presented. -/
def State.Safe : Nat → State → Prop
  | 0, s => s.Inv
  | k + 1, s => s.Inv ∧
    match step s with
    | .next t => State.Safe k t
    | .fault _ => False
    | .refused r => r = .noInput

end Sys2Proof.Machine
end

