-- ==== Sys2Proof/Certificates/Slice0/Obligations.lean ====
section
/-!
DEFINITION. The statements for the provers. Numbers are written with /, % and + on naturals and bits
with `getLsbD`, from the spec's tables, not through the model's field functions.
"The spec's decision D<n>" names an entry of spec/92_eei_decisions.md: a choice the spec marks as its
own; a statement that rests on one has basis 'derived'. Where a parameter of rule R9 matters the
statement is about the machine `stepWith P` for every value `P` of the parameters; `step` is its case
`Params.spec` (StepRunsThePresentedOperation).
-/

namespace Sys2Proof.Claim

open Sys2Proof.Machine

/-- The length steps of rule R308 for all four channels, written out: length enable is bit 6 of NRx4;
a counter above 0 goes down by 1; a counter that reaches 0 clears `en`. -/
def afterLength (a : Apu) : Apu :=
  { a with
    ch1 := { a.ch1 with
      len := if a.regs.nr14.getLsbD 6 then a.ch1.len - 1 else a.ch1.len
      en := if a.regs.nr14.getLsbD 6 = true ∧ a.ch1.len = 1 then false else a.ch1.en }
    ch2 := { a.ch2 with
      len := if a.regs.nr24.getLsbD 6 then a.ch2.len - 1 else a.ch2.len
      en := if a.regs.nr24.getLsbD 6 = true ∧ a.ch2.len = 1 then false else a.ch2.en }
    ch3 := { a.ch3 with
      len := if a.regs.nr34.getLsbD 6 then a.ch3.len - 1 else a.ch3.len
      en := if a.regs.nr34.getLsbD 6 = true ∧ a.ch3.len = 1 then false else a.ch3.en }
    ch4 := { a.ch4 with
      len := if a.regs.nr44.getLsbD 6 then a.ch4.len - 1 else a.ch4.len
      en := if a.regs.nr44.getLsbD 6 = true ∧ a.ch4.len = 1 then false else a.ch4.en } }

/-- The envelope timer of rule R312 after one step, under the byte `b` of NRx2 (bits 2..0 period). -/
def envTimer (b : Byte) (et : Nat) : Nat :=
  if b.toNat % 8 = 0 then et else if et ≤ 1 then b.toNat % 8 else et - 1

/-- The volume of rule R312 after one step (bit 3 of NRx2: 1 = up), clamped to 0..15. -/
def envVol (b : Byte) (et vol : Nat) : Nat :=
  if b.toNat % 8 = 0 ∨ 1 < et then vol
  else if b.getLsbD 3 then min (vol + 1) 15 else vol - 1

/-- The period value of rule R110: `NRx4[2:0] ++ NRx3`. -/
def periodVal (lo hi : Byte) : Nat := hi.toNat % 8 * 256 + lo.toNat

/-- The noise period of rule R372, from NR43. -/
def noisePeriod (b : Byte) : Nat :=
  (if b.toNat % 8 = 0 then 8 else 16 * (b.toNat % 8)) * 2 ^ (b.toNat / 16)

/-- The candidate of rule R320: `shadow ± (shadow >> shift)`, bit 3 of NR10 subtracting. -/
def sweepCandidate (a : Apu) : Nat :=
  if a.regs.nr10.getLsbD 3 then a.sweep.shadow - a.sweep.shadow / 2 ^ (a.regs.nr10.toNat % 8)
  else a.sweep.shadow + a.sweep.shadow / 2 ^ (a.regs.nr10.toNat % 8)

/-- The length counter of a channel. -/
def lenOf (c : Channel) (a : Apu) : Nat :=
  match c with
  | .ch1 => a.ch1.len
  | .ch2 => a.ch2.len
  | .ch3 => a.ch3.len
  | .ch4 => a.ch4.len

/-- The tick at which the frame sequencer takes one of the steps `l`. -/
def AtStep (l : List Nat) (a : Apu) : Prop :=
  a.power = true ∧ a.fs.fst = 8191 ∧ a.fs.fss.val ∈ l

/-- The operations of the abstract view that one clock edge without reset stands for (rule R103). -/
def edgeOps (p : Pins) : List Input :=
  (if p.we then [presentWrite p.addr p.wdata] else []) ++ [presentTick]

/-- The register whose write triggers a channel. -/
def controlAddr (c : Channel) : Addr :=
  match c with
  | .ch1 => 0xFF14#16
  | .ch2 => 0xFF19#16
  | .ch3 => 0xFF1E#16
  | .ch4 => 0xFF23#16

/-- What rule R200 makes of a write. -/
def written (a : Addr) (v : Byte) (x : Apu) : Apu :=
  if a = 0xFF26#16 then powerWrite v x
  else if x.power = false then x
  else match regAt a with
    | some n => writeReg n v x
    | none =>
      if 0xFF30 ≤ a.toNat ∧ a.toNat ≤ 0xFF3F then storeWave (a.toNat - 0xFF30) v x else x

/-- What rules R201 and R202 make of a read, under read masks. -/
def readOf (mask : ReadMask) (a : Addr) (x : Apu) : Byte :=
  if a = 0xFF26#16 then statusByte x
  else match regAt a with
    | some n => x.regs.get n ||| mask n
    | none =>
      if 0xFF30 ≤ a.toNat ∧ a.toNat ≤ 0xFF3F then waveByte x.mem (a.toNat - 0xFF30) else 0xFF#8

/-- What rule R430 makes of a `SAMPLE`, under a duty table. -/
def sampleOf (t : DutyTable) (a : Apu) : Response :=
  if a.power = false then .frame 0 0
  else .frame
    (((if a.regs.nr51.getLsbD 4 then out t .ch1 a else 0)
      + (if a.regs.nr51.getLsbD 5 then out t .ch2 a else 0)
      + (if a.regs.nr51.getLsbD 6 then out t .ch3 a else 0)
      + (if a.regs.nr51.getLsbD 7 then out t .ch4 a else 0))
      * (a.regs.nr50.toNat / 16 % 8 + 1))
    (((if a.regs.nr51.getLsbD 0 then out t .ch1 a else 0)
      + (if a.regs.nr51.getLsbD 1 then out t .ch2 a else 0)
      + (if a.regs.nr51.getLsbD 2 then out t .ch3 a else 0)
      + (if a.regs.nr51.getLsbD 3 then out t .ch4 a else 0))
      * (a.regs.nr50.toNat % 8 + 1))

/-- The rules of a clock edge (R100, R102, R480) for a step function under the parameters `P`: reset
wins; both strobes have no meaning; else the bus write, then the `TICK`; the ports show `rdata`, the
byte that `RD addr` returns, and `(out_l, out_r)`, the pair that `SAMPLE` returns, of the state before
the edge, or of the reset state while `rst` is 1. -/
def EdgeRule (P : Params) (run : State → StepResult) : Prop :=
  (∀ (s : State) (p : Pins) (rest : List Input), s.inputs = .clock p :: rest →
    (p.rst = true → run s = .next {
      apu := Apu.resetWith P.waveRamInit P.resetPower
      inputs := rest
      response := portsOf P p.addr (Apu.resetWith P.waveRamInit P.resetPower) }) ∧
    (p.rst = false → p.we = true → p.re = true → run s = .refused .readAndWriteTogether) ∧
    (p.rst = false → p.we = true → p.re = false →
      run s = .next { apu := tick (busWrite p.addr p.wdata s.apu), inputs := rest,
                      response := portsOf P p.addr s.apu }) ∧
    (p.rst = false → p.we = false →
      run s = .next { apu := tick s.apu, inputs := rest, response := portsOf P p.addr s.apu })) ∧
  (∀ (a : Apu) (addr : Addr), ∃ (v : Byte) (l r : Nat), portsOf P addr a = .ports v l r ∧
    ∀ (s : State) (rest : List Input), s.apu = a →
      (s.inputs = presentRead addr :: rest →
        run s = .next { s with inputs := rest, response := .byte v }) ∧
      (s.inputs = presentSample :: rest →
        run s = .next { s with inputs := rest, response := .frame l r }))

end Sys2Proof.Claim

open Sys2Proof Sys2Proof.Machine Sys2Proof.Claim

/-! ### Encoding and the step -/

/-- Decoding the word of a well-formed operation gives that operation, every operand at every value
(spec/30_encoding.md section 5). -/
def Obligations.DecodeInvertsEncode : Prop :=
  ∀ i : Instr, i.wf = true → decode (encode i) = i

/-- The decoder follows the opcode table by the most-bits rule: for every word exactly one row takes
it with the most mask bits, and it is the row of the decoded operation. -/
def Obligations.DecodeFollowsOpcodeTable : Prop :=
  ∀ w : OpWord, ∃ r ∈ opTable, r.takes w = true ∧ r.mnemonic = (decode w).mnemonic ∧
    ∀ q ∈ opTable, q.takes w = true → q ≠ r → q.weight < r.weight

/-- Every word decodes to a well-formed operation, and encoding that gives the word back with the
ignored bits of rule R165 cleared. -/
def Obligations.EncodeRestoresTheWord : Prop :=
  ∀ w : OpWord, (decode w).wf = true ∧
    encode (decode w) =
      (if w.toNat / 2 ^ 24 = 0 ∨ w.toNat / 2 ^ 24 = 1 then w &&& 0x3000000#26
       else if w.toNat / 2 ^ 24 = 2 then w &&& 0x3FFFF00#26
       else w)

/-- Words written out bit by bit (kind, address, data) decode to what they stand for. -/
def Obligations.WrittenOutWordsDecode : Prop :=
  decode 0b00_0000000000000000_00000000#26 = .tick ∧
  decode 0b01_0000000000000000_00000000#26 = .sample ∧
  decode 0b11_1111111100010010_10100010#26 = .wrNr12 0xA2#8 ∧
  decode 0b11_1111111100011001_11000111#26 = .wrNr24 0xC7#8 ∧
  decode 0b11_1111111100011110_10000111#26 = .wrNr34 0x87#8 ∧
  decode 0b11_1111111100100010_00010011#26 = .wrNr43 0x13#8 ∧
  decode 0b10_1111111100100110_00000000#26 = .rdNr52 ∧
  decode 0b11_1111111100110001_00100011#26 = .wrWave 1#4 0x23#8 ∧
  decode 0b10_1111111100111000_00000000#26 = .rdWave 8#4 ∧
  decode 0b11_1111111100010101_10101010#26 = .wrHole15 0xAA#8 ∧
  decode 0b10_1111111100101111_00000000#26 = .rdHole28_2F 7#3 ∧
  decode 0b10_1111111101000000_00000000#26 = .rdUnmapped 0xFF40#16

/-- A step runs the operation whose word the host presented first, with that word taken off the
stream (log entry 4: the stream is the model's own); and it is the step of the machine with parameters
at the spec's values (rule R9, log entry 17). -/
def Obligations.StepRunsThePresentedOperation : Prop :=
  (∀ (s : State) (w : OpWord) (rest : List Input), s.inputs = .op w :: rest →
    step s = exec (decode w) { s with inputs := rest }) ∧
  (∀ (s : State) (i : Instr) (rest : List Input), i.wf = true → s.inputs = .op (encode i) :: rest →
    step s = exec i { s with inputs := rest }) ∧
  (∀ (s : State) (n : Nat) (i : Instr), decodeTableWord 32 n = some i →
    step (s.withFetchWord 32 n) = exec i s) ∧
  (∀ s : State, step s = stepWith Params.spec s)

/-- One clock edge (rules R100, R102, R480; the spec's decisions D3 and D6; log entry 12), for `step`
and for the machine under every value of the parameters. -/
def Obligations.ClockEdgeWritesThenTicks : Prop :=
  EdgeRule Params.spec step ∧ ∀ P : Params, EdgeRule P (stepWith P)

/-- Every behaviour of the port-level machine is one of the abstract machine: a run over clock edges
without reset and without both strobes leaves the same APU as the run over the operations the edges
stand for (rule R103, which the spec marks as derived). -/
def Obligations.PortMachineRefinesOperations : Prop :=
  ∀ (a : Apu) (r : Response) (ps : List Pins),
    (∀ p ∈ ps, p.rst = false ∧ (p.we && p.re) = false) →
    ∃ t u : State,
      Host.Core.run Sys2Proof.core ps.length
        ({ apu := a, inputs := ps.map .clock, response := r } : State) = .next t ∧
      Host.Core.run Sys2Proof.core (ps.flatMap edgeOps).length
        ({ apu := a, inputs := ps.flatMap edgeOps, response := r } : State) = .next u ∧
      t.apu = u.apu ∧ t.inputs = [] ∧ u.inputs = []

/-- Every operation is total (rule R13): exec answers a next state for every operation, operand and
state, ill-formed terms included (log entry 15), and leaves the host's stream alone (log entry 4); so
does every presented word under every value of the parameters; and there is no fault at all (rule
R460). -/
def Obligations.EveryOperationSucceeds : Prop :=
  (∀ (i : Instr) (s : State), ∃ t, exec i s = .next t ∧ t.inputs = s.inputs) ∧
  (∀ (P : Params) (s : State) (w : OpWord) (rest : List Input), s.inputs = .op w :: rest →
    ∃ t, stepWith P s = .next t ∧ t.inputs = rest) ∧
  (∀ _ : Fault, False)

/-! ### Reset and the invariant -/

/-- The reset state, for every value of the parameters `WAVE_RAM_INIT` and `RESET_POWER` (rule R70,
the spec's decisions D3, D4, D5; log entries 1, 2 and 11). -/
def Obligations.ResetStateValues : Prop :=
  (∀ (init : Nat → Byte) (p : Bool),
    (∀ n : Reg, (Apu.resetWith init p).regs.get n = 0x00#8) ∧
    (∀ k, k < 16 → (Apu.resetWith init p).mem.read (0xFF30 + k) = some (init k)) ∧
    (Apu.resetWith init p).power = p ∧
    (Apu.resetWith init p).ch1 = { en := false, ft := 0, ph := 0, len := 0, et := 0, vol := 0 } ∧
    (Apu.resetWith init p).sweep = { swt := 0, shadow := 0, swen := false } ∧
    (Apu.resetWith init p).ch2 = { en := false, ft := 0, ph := 0, len := 0, et := 0, vol := 0 } ∧
    (Apu.resetWith init p).ch3 = { en := false, ft := 0, ph := 0, len := 0 } ∧
    (Apu.resetWith init p).ch4 =
      { en := false, ft := 0, lfsr := 0x7FFF#15, len := 0, et := 0, vol := 0 } ∧
    (Apu.resetWith init p).fs = { fst := 0, fss := 0 }) ∧
  State.reset.apu = Apu.resetWith Config.waveRamInit true ∧ State.reset.inputs = [] ∧
  State.reset = State.resetIn Params.spec

/-- The invariant of rule R55 (derived there) holds at reset, whatever the parameters are. -/
def Obligations.ResetMeetsTheInvariant : Prop :=
  (∀ (init : Nat → Byte) (p : Bool), (Apu.resetWith init p).Inv) ∧ State.reset.Inv

/-- Every step, an operation or a clock edge, keeps the invariant of rule R55 from every state that
meets it, whatever the parameters are. -/
def Obligations.StepKeepsTheInvariant : Prop :=
  (∀ s t : State, s.Inv → step s = .next t → t.Inv) ∧
  (∀ (P : Params) (s t : State), s.Inv → stepWith P s = .next t → t.Inv)

/-- The first `TICK` after reset with the power on: every timer expires at once (rule R482). -/
def Obligations.FirstTickAfterReset : Prop :=
  ∀ (init : Nat → Byte) (l : List Input) (r : Response), ∃ t,
    exec .tick { apu := Apu.resetWith init true, inputs := l, response := r } = .next t ∧
    t.apu = { Apu.resetWith init true with
      fs := { fst := 1, fss := 0 }
      ch1 := { en := false, ft := 8192, ph := 1, len := 0, et := 0, vol := 0 }
      ch2 := { en := false, ft := 8192, ph := 1, len := 0, et := 0, vol := 0 }
      ch3 := { en := false, ft := 4096, ph := 1, len := 0 }
      ch4 := { en := false, ft := 8, lfsr := 0x3FFF#15, len := 0, et := 0, vol := 0 } }

/-! ### Power -/

/-- Power-off and power-on through NR52 change only what rule R262 lists (rule R71). That bit 7 is the
power bit is the spec's decision D31 (log entry 14); the exact clears, also while already off, are its
decision D21 (log entry 9). -/
def Obligations.PowerWriteChangesOnlyTheListed : Prop :=
  (∀ (s : State) (v : Byte), v.getLsbD 7 = false →
    exec (.wrNr52 v) s = .next { s with
      response := .none
      apu := { s.apu with
        power := false
        regs := { s.apu.regs with nr50 := 0x00#8, nr51 := 0x00#8 }
        ch1 := { s.apu.ch1 with en := false }
        ch2 := { s.apu.ch2 with en := false }
        ch3 := { s.apu.ch3 with en := false }
        ch4 := { s.apu.ch4 with en := false } } }) ∧
  (∀ (s : State) (v : Byte), v.getLsbD 7 = true → s.apu.power = false →
    exec (.wrNr52 v) s = .next { s with
      response := .none
      apu := { s.apu with power := true, fs := { fst := 0, fss := 0 } } })

/-- A write of NR52 with bit 7 set while on changes nothing, and bits 6..0 are ignored (the spec's
decision D21). -/
def Obligations.RedundantPowerWriteIsIgnored : Prop :=
  (∀ (s : State) (v : Byte), v.getLsbD 7 = true → s.apu.power = true →
    exec (.wrNr52 v) s = .next { s with response := .none }) ∧
  (∀ (s : State) (v w : Byte), v.getLsbD 7 = w.getLsbD 7 → exec (.wrNr52 v) s = exec (.wrNr52 w) s)

/-- The power bit is written only by `WR 0xFF26` and by reset (rule R45), whatever the host presents;
such a write gives it bit 7 of the byte (the spec's decisions D21 and D31, log entries 9 and 14). -/
def Obligations.PowerWrittenOnlyByNr52OrReset : Prop :=
  (∀ (s : State) (v : Byte), ∃ t, exec (.wrNr52 v) s = .next t ∧ t.apu.power = v.getLsbD 7) ∧
  ∀ s t : State, step s = .next t → t.apu.power ≠ s.apu.power →
    (∃ w v rest, s.inputs = .op w :: rest ∧ decode w = .wrNr52 v) ∨
    (∃ p rest, s.inputs = .clock p :: rest ∧ (p.rst = true ∨ (p.we = true ∧ p.addr = 0xFF26#16)))

/-- After a power cycle the 18 channel register bytes, the wave RAM and all runtime state but the
`en` flags and the frame sequencer hold what they held before; reset at a clock edge sets every
element (rule R481; the reset input and its values are the spec's decision D3). -/
def Obligations.PowerCycleKeepsTheRest : Prop :=
  (∀ (s : State) (v w : Byte), v.getLsbD 7 = false → w.getLsbD 7 = true → ∃ t u,
    exec (.wrNr52 v) s = .next t ∧ exec (.wrNr52 w) t = .next u ∧
    (∀ n : Reg, n ≠ .nr50 → n ≠ .nr51 → u.apu.regs.get n = s.apu.regs.get n) ∧
    u.apu.mem = s.apu.mem ∧
    u.apu.ch1 = { s.apu.ch1 with en := false } ∧ u.apu.sweep = s.apu.sweep ∧
    u.apu.ch2 = { s.apu.ch2 with en := false } ∧ u.apu.ch3 = { s.apu.ch3 with en := false } ∧
    u.apu.ch4 = { s.apu.ch4 with en := false } ∧
    u.apu.regs.nr50 = 0x00#8 ∧ u.apu.regs.nr51 = 0x00#8 ∧
    u.apu.power = true ∧ u.apu.fs = { fst := 0, fss := 0 }) ∧
  (∀ (s : State) (p : Pins) (rest : List Input), s.inputs = .clock p :: rest → p.rst = true →
    ∃ t, step s = .next t ∧ t.apu = Apu.reset)

/-- Writes while powered off are lost, wave RAM writes included, and power-off clears NR50 and NR51
(rule R503; the spec's decision D22). -/
def Obligations.WritesWhileOffAreLost : Prop :=
  (∀ (s : State) (a : Addr) (v : Byte), s.apu.power = false → a ≠ 0xFF26#16 →
    exec (decode (opWord 3#2 a v)) s = .next { s with response := .none }) ∧
  (∀ (s : State) (v : Byte), v.getLsbD 7 = false → ∃ t, exec (.wrNr52 v) s = .next t ∧
    t.apu.power = false ∧ t.apu.regs.nr50 = 0x00#8 ∧ t.apu.regs.nr51 = 0x00#8)

/-- Silence while powered off (rule R436): `SAMPLE` is (0, 0), `TICK` does nothing, every `en` is 0
and NR52 reads 0x70 (the spec's decision D31), in every powered-off state that meets the invariant. -/
def Obligations.SilentWhilePoweredOff : Prop :=
  ∀ s : State, s.Inv → s.apu.power = false →
    exec .sample s = .next { s with response := .frame 0 0 } ∧
    exec .tick s = .next { s with response := .none } ∧
    (∀ c, enabled c s.apu = false) ∧
    exec .rdNr52 s = .next { s with response := .byte 0x70#8 }

/-! ### The bus by address -/

/-- `WR a, v` at every one of the 65536 addresses dispatches as rule R200 says, whatever the
parameters are. -/
def Obligations.WriteDispatchesByAddress : Prop :=
  (∀ (s : State) (a : Addr) (v : Byte), exec (decode (opWord 3#2 a v)) s =
    .next { s with response := .none, apu := written a v s.apu }) ∧
  (∀ (P : Params) (s : State) (a : Addr) (v : Byte) (rest : List Input),
    s.inputs = presentWrite a v :: rest → stepWith P s =
      .next { inputs := rest, response := .none, apu := written a v s.apu })

/-- `RD a` at every address returns what rules R201 and R202 say and changes no state, whatever
`power` is, under every value of `READ_MASK`. -/
def Obligations.ReadDispatchesByAddress : Prop :=
  (∀ (s : State) (a : Addr), exec (decode (opWord 2#2 a 0#8)) s =
    .next { s with response := .byte (readOf readMask a s.apu) }) ∧
  (∀ (P : Params) (s : State) (a : Addr) (rest : List Input),
    s.inputs = presentRead a :: rest → stepWith P s =
      .next { s with inputs := rest, response := .byte (readOf P.readMask a s.apu) })

/-- No read and no `SAMPLE` changes any state; `SAMPLE` is idempotent, across reads too (rules R113
and R450, which the spec marks as derived). -/
def Obligations.ReadsAndSamplesChangeNothing : Prop :=
  (∀ (s : State) (w : OpWord), opKind w = 1#2 ∨ opKind w = 2#2 →
    ∃ r, exec (decode w) s = .next { s with response := r }) ∧
  (∀ (s t u : State) (w : OpWord), opKind w = 1#2 ∨ opKind w = 2#2 →
    exec (decode w) s = .next t → exec .sample t = .next u →
    ∃ r, exec .sample s = .next { s with response := r } ∧ u.response = r)

/-- What a host can observe (rule R65): a read returns the same byte in two states that differ in the
runtime state but agree on the `en` flags, the power bit, the wave RAM and the stored bytes, and also
if NR13 and NR14 bits 2..0 differ; `TICK` and `WR` return nothing. -/
def Obligations.ReadsSeeOnlyTheRegisterSurface : Prop :=
  (∀ (s u : State) (w : OpWord), opKind w = 2#2 →
    (∀ c, enabled c u.apu = enabled c s.apu) → u.apu.power = s.apu.power →
    u.apu.mem = s.apu.mem →
    (∀ n : Reg, n ≠ .nr13 → n ≠ .nr14 → u.apu.regs.get n = s.apu.regs.get n) →
    u.apu.regs.nr14.toNat / 8 = s.apu.regs.nr14.toNat / 8 →
    ∃ r, exec (decode w) s = .next { s with response := r } ∧
      exec (decode w) u = .next { u with response := r }) ∧
  (∀ (s : State) (w : OpWord), opKind w = 0#2 ∨ opKind w = 3#2 →
    ∃ t, exec (decode w) s = .next t ∧ t.response = .none)

/-! ### Register writes (powered on) -/

/-- The writes that only store their byte (rules R210, R213, R223, R232, R233, R243, R250, R251). -/
def Obligations.PlainRegisterWrites : Prop :=
  ∀ (s : State) (v : Byte), s.apu.power = true →
    exec (.wrNr10 v) s = .next { s with
      response := .none, apu := { s.apu with regs := { s.apu.regs with nr10 := v } } } ∧
    exec (.wrNr13 v) s = .next { s with
      response := .none, apu := { s.apu with regs := { s.apu.regs with nr13 := v } } } ∧
    exec (.wrNr23 v) s = .next { s with
      response := .none, apu := { s.apu with regs := { s.apu.regs with nr23 := v } } } ∧
    exec (.wrNr32 v) s = .next { s with
      response := .none, apu := { s.apu with regs := { s.apu.regs with nr32 := v } } } ∧
    exec (.wrNr33 v) s = .next { s with
      response := .none, apu := { s.apu with regs := { s.apu.regs with nr33 := v } } } ∧
    exec (.wrNr43 v) s = .next { s with
      response := .none, apu := { s.apu with regs := { s.apu.regs with nr43 := v } } } ∧
    exec (.wrNr50 v) s = .next { s with
      response := .none, apu := { s.apu with regs := { s.apu.regs with nr50 := v } } } ∧
    exec (.wrNr51 v) s = .next { s with
      response := .none, apu := { s.apu with regs := { s.apu.regs with nr51 := v } } }

/-- The writes that load a length counter: 64 minus bits 5..0, or 256 minus the byte (rule R152, from
general knowledge; the spec's decision D14). -/
def Obligations.LengthLoadWrites : Prop :=
  ∀ (s : State) (v : Byte), s.apu.power = true →
    exec (.wrNr11 v) s = .next { s with
      response := .none
      apu := { s.apu with
        regs := { s.apu.regs with nr11 := v }
        ch1 := { s.apu.ch1 with len := 64 - v.toNat % 64 } } } ∧
    exec (.wrNr21 v) s = .next { s with
      response := .none
      apu := { s.apu with
        regs := { s.apu.regs with nr21 := v }
        ch2 := { s.apu.ch2 with len := 64 - v.toNat % 64 } } } ∧
    exec (.wrNr31 v) s = .next { s with
      response := .none
      apu := { s.apu with
        regs := { s.apu.regs with nr31 := v }
        ch3 := { s.apu.ch3 with len := 256 - v.toNat } } } ∧
    exec (.wrNr41 v) s = .next { s with
      response := .none
      apu := { s.apu with
        regs := { s.apu.regs with nr41 := v }
        ch4 := { s.apu.ch4 with len := 64 - v.toNat % 64 } } }

/-- The writes that can turn a DAC off clear `en` exactly then: bits 7..3 all zero, or bit 7 of NR30
zero (rules R212, R222, R230, R242; the spec's decision D15). -/
def Obligations.DacOffWritesIdleTheChannel : Prop :=
  ∀ (s : State) (v : Byte), s.apu.power = true →
    exec (.wrNr12 v) s = .next { s with
      response := .none
      apu := { s.apu with
        regs := { s.apu.regs with nr12 := v }
        ch1 := { s.apu.ch1 with en := if v.toNat < 8 then false else s.apu.ch1.en } } } ∧
    exec (.wrNr22 v) s = .next { s with
      response := .none
      apu := { s.apu with
        regs := { s.apu.regs with nr22 := v }
        ch2 := { s.apu.ch2 with en := if v.toNat < 8 then false else s.apu.ch2.en } } } ∧
    exec (.wrNr30 v) s = .next { s with
      response := .none
      apu := { s.apu with
        regs := { s.apu.regs with nr30 := v }
        ch3 := { s.apu.ch3 with en := if v.toNat < 128 then false else s.apu.ch3.en } } } ∧
    exec (.wrNr42 v) s = .next { s with
      response := .none
      apu := { s.apu with
        regs := { s.apu.regs with nr42 := v }
        ch4 := { s.apu.ch4 with en := if v.toNat < 8 then false else s.apu.ch4.en } } }

/-- A write of NRx4 with bit 7 zero only stores the byte (the spec's decision D17). -/
def Obligations.ControlWritesWithoutTrigger : Prop :=
  ∀ (s : State) (v : Byte), s.apu.power = true → v.getLsbD 7 = false →
    exec (.wrNr14 v) s = .next { s with
      response := .none, apu := { s.apu with regs := { s.apu.regs with nr14 := v } } } ∧
    exec (.wrNr24 v) s = .next { s with
      response := .none, apu := { s.apu with regs := { s.apu.regs with nr24 := v } } } ∧
    exec (.wrNr34 v) s = .next { s with
      response := .none, apu := { s.apu with regs := { s.apu.regs with nr34 := v } } } ∧
    exec (.wrNr44 v) s = .next { s with
      response := .none, apu := { s.apu with regs := { s.apu.regs with nr44 := v } } }

/-- The trigger of channel 1 (rules R214, R305; the spec's decisions D16, D17, D24): whatever the DAC
is, the phase kept, a zero length counter reloaded to 64, the timer, envelope and sweep copies taken
from the stored bytes, no sweep calculation. -/
def Obligations.PulseATrigger : Prop :=
  ∀ (s : State) (v : Byte), s.apu.power = true → v.getLsbD 7 = true →
    exec (.wrNr14 v) s = .next { s with
      response := .none
      apu := { s.apu with
        regs := { s.apu.regs with nr14 := v }
        ch1 := { s.apu.ch1 with
          en := true
          len := if s.apu.ch1.len = 0 then 64 else s.apu.ch1.len
          ft := (2048 - periodVal s.apu.regs.nr13 v) * 4
          et := s.apu.regs.nr12.toNat % 8
          vol := s.apu.regs.nr12.toNat / 16 }
        sweep := {
          swt := if s.apu.regs.nr10.toNat / 16 % 8 = 0 then 8 else s.apu.regs.nr10.toNat / 16 % 8
          shadow := periodVal s.apu.regs.nr13 v
          swen := decide (0 < s.apu.regs.nr10.toNat / 16 % 8 ∨ 0 < s.apu.regs.nr10.toNat % 8) } } }

/-- The trigger of channel 2 (rules R224, R305; the spec's decisions D16, D17, D24): as channel 1's,
without the sweep part. -/
def Obligations.PulseBTrigger : Prop :=
  ∀ (s : State) (v : Byte), s.apu.power = true → v.getLsbD 7 = true →
    exec (.wrNr24 v) s = .next { s with
      response := .none
      apu := { s.apu with
        regs := { s.apu.regs with nr24 := v }
        ch2 := { s.apu.ch2 with
          en := true
          len := if s.apu.ch2.len = 0 then 64 else s.apu.ch2.len
          ft := (2048 - periodVal s.apu.regs.nr23 v) * 4
          et := s.apu.regs.nr22.toNat % 8
          vol := s.apu.regs.nr22.toNat / 16 } } }

/-- The trigger of channel 3 (rules R234, R345; the spec's decisions D16, D17): only with bit 7 of
NR30 set; else the byte is stored and nothing more. -/
def Obligations.WaveTrigger : Prop :=
  ∀ (s : State) (v : Byte), s.apu.power = true → v.getLsbD 7 = true →
    (s.apu.regs.nr30.getLsbD 7 = true →
      exec (.wrNr34 v) s = .next { s with
        response := .none
        apu := { s.apu with
          regs := { s.apu.regs with nr34 := v }
          ch3 := {
            en := true
            len := if s.apu.ch3.len = 0 then 256 else s.apu.ch3.len
            ph := 0
            ft := (2048 - periodVal s.apu.regs.nr33 v) * 2 } } }) ∧
    (s.apu.regs.nr30.getLsbD 7 = false →
      exec (.wrNr34 v) s = .next { s with
        response := .none, apu := { s.apu with regs := { s.apu.regs with nr34 := v } } })

/-- The trigger of channel 4 (rules R244, R375; the spec's decisions D16, D17). -/
def Obligations.NoiseTrigger : Prop :=
  ∀ (s : State) (v : Byte), s.apu.power = true → v.getLsbD 7 = true →
    exec (.wrNr44 v) s = .next { s with
      response := .none
      apu := { s.apu with
        regs := { s.apu.regs with nr44 := v }
        ch4 := {
          en := true
          len := if s.apu.ch4.len = 0 then 64 else s.apu.ch4.len
          ft := noisePeriod s.apu.regs.nr43
          et := s.apu.regs.nr42.toNat % 8
          vol := s.apu.regs.nr42.toNat / 16
          lfsr := 0x7FFF#15 } } }

/-! ### Register reads -/

/-- The reads of channels 1 and 2: the stored byte with the mask bits forced to 1 (the masks are the
spec's default for the parameter `READ_MASK`, decision D12, from general knowledge; log entry 3). -/
def Obligations.PulseRegisterReads : Prop :=
  ∀ s : State,
    exec .rdNr10 s = .next { s with response := .byte (s.apu.regs.nr10 ||| 0x80#8) } ∧
    exec .rdNr11 s = .next { s with response := .byte (s.apu.regs.nr11 ||| 0x3F#8) } ∧
    exec .rdNr12 s = .next { s with response := .byte s.apu.regs.nr12 } ∧
    exec .rdNr13 s = .next { s with response := .byte 0xFF#8 } ∧
    exec .rdNr14 s = .next { s with response := .byte (s.apu.regs.nr14 ||| 0xBF#8) } ∧
    exec .rdNr21 s = .next { s with response := .byte (s.apu.regs.nr21 ||| 0x3F#8) } ∧
    exec .rdNr22 s = .next { s with response := .byte s.apu.regs.nr22 } ∧
    exec .rdNr23 s = .next { s with response := .byte 0xFF#8 } ∧
    exec .rdNr24 s = .next { s with response := .byte (s.apu.regs.nr24 ||| 0xBF#8) }

/-- The reads of channels 3 and 4 and of NR50 and NR51, which read 0x00 after power-off (masks as
above: decision D12, log entry 3). -/
def Obligations.WaveNoiseControlReads : Prop :=
  (∀ s : State,
    exec .rdNr30 s = .next { s with response := .byte (s.apu.regs.nr30 ||| 0x7F#8) } ∧
    exec .rdNr31 s = .next { s with response := .byte 0xFF#8 } ∧
    exec .rdNr32 s = .next { s with response := .byte (s.apu.regs.nr32 ||| 0x9F#8) } ∧
    exec .rdNr33 s = .next { s with response := .byte 0xFF#8 } ∧
    exec .rdNr34 s = .next { s with response := .byte (s.apu.regs.nr34 ||| 0xBF#8) } ∧
    exec .rdNr41 s = .next { s with response := .byte 0xFF#8 } ∧
    exec .rdNr42 s = .next { s with response := .byte s.apu.regs.nr42 } ∧
    exec .rdNr43 s = .next { s with response := .byte s.apu.regs.nr43 } ∧
    exec .rdNr44 s = .next { s with response := .byte (s.apu.regs.nr44 ||| 0xBF#8) } ∧
    exec .rdNr50 s = .next { s with response := .byte s.apu.regs.nr50 } ∧
    exec .rdNr51 s = .next { s with response := .byte s.apu.regs.nr51 }) ∧
  (∀ (s t : State) (v : Byte), v.getLsbD 7 = false → exec (.wrNr52 v) s = .next t →
    exec .rdNr50 t = .next { t with response := .byte 0x00#8 } ∧
    exec .rdNr51 t = .next { t with response := .byte 0x00#8 })

/-- The status read (rule R263, the spec's decision D31): power in bit 7, ones in bits 6..4, the live
`en` flags in bits 3..0, whatever the register bytes are. -/
def Obligations.StatusReadShowsLiveFlags : Prop :=
  ∀ s : State, ∃ b : Byte, exec .rdNr52 s = .next { s with response := .byte b } ∧
    b.toNat = s.apu.power.toNat * 128 + 0x70 + s.apu.ch4.en.toNat * 8 + s.apu.ch3.en.toNat * 4
      + s.apu.ch2.en.toNat * 2 + s.apu.ch1.en.toNat

/-! ### Wave RAM and unmapped addresses -/

/-- A powered-on wave RAM write stores the byte at its address whatever `en3` is, and changes no other
byte and nothing else (rule R270; the spec's decisions D22, D28). -/
def Obligations.WaveRamWrite : Prop :=
  ∀ (s : State) (k : BitVec 4) (v : Byte), s.apu.power = true → s.apu.mem.wf →
    ∃ t, exec (.wrWave k v) s = .next t ∧
      t = { s with response := .none, apu := { s.apu with mem := t.apu.mem } } ∧
      t.apu.mem.read (0xFF30 + k.toNat) = some v ∧
      (∀ a, a ≠ 0xFF30 + k.toNat → t.apu.mem.read a = s.apu.mem.read a) ∧
      t.apu.mem.wf

/-- A wave RAM read returns the byte at its address, all 8 bits, whatever `en3`, `ph3` and `power`
are (rule R271; the spec's decision D28). -/
def Obligations.WaveRamRead : Prop :=
  ∀ (s : State) (k : BitVec 4), s.apu.mem.wf →
    ∃ b, s.apu.mem.read (0xFF30 + k.toNat) = some b ∧
      exec (.rdWave k) s = .next { s with response := .byte b }

/-- Unmapped addresses: a write changes nothing and a read returns 0xFF, whatever `power` is (rules
R280, R281; the spec's decision D23). That `wrUnmapped` and `rdUnmapped` are so also at an address
inside 0xFF10..0xFF3F, which no word decodes to, is log entry 15. -/
def Obligations.UnmappedAddressesAreInert : Prop :=
  ∀ (s : State) (v : Byte) (k : BitVec 3) (a : Addr),
    exec (.wrHole15 v) s = .next { s with response := .none } ∧
    exec (.wrHole1F v) s = .next { s with response := .none } ∧
    exec (.wrHole27 v) s = .next { s with response := .none } ∧
    exec (.wrHole28_2F k v) s = .next { s with response := .none } ∧
    exec (.wrUnmapped a v) s = .next { s with response := .none } ∧
    exec .rdHole15 s = .next { s with response := .byte 0xFF#8 } ∧
    exec .rdHole1F s = .next { s with response := .byte 0xFF#8 } ∧
    exec .rdHole27 s = .next { s with response := .byte 0xFF#8 } ∧
    exec (.rdHole28_2F k) s = .next { s with response := .byte 0xFF#8 } ∧
    exec (.rdUnmapped a) s = .next { s with response := .byte 0xFF#8 }

/-! ### TICK -/

/-- The four timer steps of one cycle, written out (rules R302, R342, R374; the spec's decision D10):
a timer at 0 or 1 expires, reloads from the live bytes and advances its phase or shift register; they
run whatever the `en` flags are and change nothing else. -/
def Obligations.TimersCountDownAndReload : Prop :=
  ∀ a : Apu, timerSteps a = { a with
    ch1 := if a.ch1.ft ≤ 1
      then { a.ch1 with ft := (2048 - periodVal a.regs.nr13 a.regs.nr14) * 4, ph := a.ch1.ph + 1 }
      else { a.ch1 with ft := a.ch1.ft - 1 }
    ch2 := if a.ch2.ft ≤ 1
      then { a.ch2 with ft := (2048 - periodVal a.regs.nr23 a.regs.nr24) * 4, ph := a.ch2.ph + 1 }
      else { a.ch2 with ft := a.ch2.ft - 1 }
    ch3 := if a.ch3.ft ≤ 1
      then { a.ch3 with ft := (2048 - periodVal a.regs.nr33 a.regs.nr34) * 2, ph := a.ch3.ph + 1 }
      else { a.ch3 with ft := a.ch3.ft - 1 }
    ch4 := if a.ch4.ft ≤ 1
      then { a.ch4 with
        ft := noisePeriod a.regs.nr43, lfsr := lfsrNext (a.regs.nr43.getLsbD 3) a.ch4.lfsr }
      else { a.ch4 with ft := a.ch4.ft - 1 } }

/-- A powered-on `TICK` at which the frame sequencer takes no step: the divider counts, the timers
run, nothing else changes (rules R402, R424; the spec's decision D9). -/
def Obligations.TickBetweenSequencerSteps : Prop :=
  ∀ s : State, s.apu.power = true → s.apu.fs.fst ≠ 8191 →
    exec .tick s = .next { s with
      response := .none
      apu := timerSteps { s.apu with fs := { s.apu.fs with fst := s.apu.fs.fst + 1 } } }

/-- A powered-on `TICK` at sequencer steps 0 and 4 (length) and 1, 3, 5 (nothing): the divider
restarts, the step number advances, the length counters of all four channels step whether or not
they are enabled, then the timers run (rules R308, R402, R404; the spec's decisions D8, D9, D29). -/
def Obligations.TickAtLengthAndIdleSteps : Prop :=
  (∀ s : State, AtStep [0, 4] s.apu →
    exec .tick s = .next { s with
      response := .none
      apu := timerSteps { afterLength s.apu with fs := { fst := 0, fss := s.apu.fs.fss + 1 } } }) ∧
  (∀ s : State, AtStep [1, 3, 5] s.apu →
    exec .tick s = .next { s with
      response := .none
      apu := timerSteps { s.apu with fs := { fst := 0, fss := s.apu.fs.fss + 1 } } })

/-- A powered-on `TICK` at sequencer steps 2 and 6: the length steps, then the sweep step, then the
timers, which already use the swept period (rules R404, R424; the spec's decisions D8, D9, D29). -/
def Obligations.TickAtSweepSteps : Prop :=
  ∀ s : State, AtStep [2, 6] s.apu →
    exec .tick s = .next { s with
      response := .none
      apu := timerSteps { sweepStep (afterLength s.apu) with
        fs := { fst := 0, fss := s.apu.fs.fss + 1 } } }

/-- A powered-on `TICK` at sequencer step 7: the envelopes of channels 1, 2 and 4 step, whether or not
they are enabled, then the timers run (rules R312, R404; the spec's decisions D8, D9, D18, D29). -/
def Obligations.TickAtTheEnvelopeStep : Prop :=
  ∀ s : State, AtStep [7] s.apu →
    exec .tick s = .next { s with
      response := .none
      apu := timerSteps { s.apu with
        fs := { fst := 0, fss := 0 }
        ch1 := { s.apu.ch1 with
          et := envTimer s.apu.regs.nr12 s.apu.ch1.et
          vol := envVol s.apu.regs.nr12 s.apu.ch1.et s.apu.ch1.vol }
        ch2 := { s.apu.ch2 with
          et := envTimer s.apu.regs.nr22 s.apu.ch2.et
          vol := envVol s.apu.regs.nr22 s.apu.ch2.et s.apu.ch2.vol }
        ch4 := { s.apu.ch4 with
          et := envTimer s.apu.regs.nr42 s.apu.ch4.et
          vol := envVol s.apu.regs.nr42 s.apu.ch4.et s.apu.ch4.vol } } }

/-- The sweep step (rules R320 to R322; the spec's decision D20), in every state: one calculation per
expiry, none while the sweep period is 0; a result above 2047 clears `en1` and writes nothing back; any
other result goes to `shadow`, NR13 and NR14 bits 2..0; the timer `ft1` is not touched. -/
def Obligations.SweepStepCases : Prop :=
  ∀ a : Apu,
    (a.sweep.swen = false → sweepStep a = a) ∧
    (a.sweep.swen = true → 2 ≤ a.sweep.swt →
      sweepStep a = { a with sweep := { a.sweep with swt := a.sweep.swt - 1 } }) ∧
    (a.sweep.swen = true → a.sweep.swt ≤ 1 → a.regs.nr10.toNat / 16 % 8 = 0 →
      sweepStep a = { a with sweep := { a.sweep with swt := 8 } }) ∧
    (a.sweep.swen = true → a.sweep.swt ≤ 1 → 0 < a.regs.nr10.toNat / 16 % 8 →
      2047 < sweepCandidate a →
      sweepStep a = { a with
        sweep := { a.sweep with swt := a.regs.nr10.toNat / 16 % 8 }
        ch1 := { a.ch1 with en := false } }) ∧
    (a.sweep.swen = true → a.sweep.swt ≤ 1 → 0 < a.regs.nr10.toNat / 16 % 8 →
      sweepCandidate a ≤ 2047 →
      sweepStep a = { a with
        sweep := { a.sweep with swt := a.regs.nr10.toNat / 16 % 8, shadow := sweepCandidate a }
        regs := { a.regs with
          nr13 := BitVec.ofNat 8 (sweepCandidate a % 256)
          nr14 := BitVec.ofNat 8 (a.regs.nr14.toNat / 8 * 8 + sweepCandidate a / 256) } })

/-- The frame sequencer is one counter: n ticks of a powered-on APU move `fst + 8192 * fss` by n
modulo 65536, so every step comes exactly 8192 cycles after the last and the pattern repeats every
65536 (rules R402, R406; the spec's decisions D2, D9). -/
def Obligations.SequencerCountsEveryCycle : Prop :=
  ∀ (n : Nat) (a : Apu), a.power = true → a.fs.fst ≤ 8191 →
    (advance n a).power = true ∧ (advance n a).fs.fst ≤ 8191 ∧
    (advance n a).fs.fst + 8192 * (advance n a).fs.fss.val =
      (a.fs.fst + 8192 * a.fs.fss.val + n) % 65536

/-- `ADVANCE n` presented as n `TICK` words runs to the APU advanced by n cycles, and a run of cycles
may be split anywhere (rule R426, the spec's decision D2). -/
def Obligations.AdvanceRunsAndSplits : Prop :=
  (∀ (n : Nat) (s : State) (rest : List Input), s.inputs = scriptAdvance n ++ rest →
    ∃ t, Host.Core.run Sys2Proof.core n s = .next t ∧
      t.apu = advance n s.apu ∧ t.inputs = rest) ∧
  (∀ (m n : Nat) (a : Apu), advance (m + n) a = advance n (advance m a))

/-- Between register writes the phase advances exactly once every `reload` cycles (rules R302, R342,
derived there): from a freshly reloaded timer, after k cycles the timer has `reload - k % reload` left
and the phase has advanced by `k / reload`, modulo 8 for channel 2 (and for channel 1 while its sweep
is disabled) and modulo 32 for channel 3. -/
def Obligations.PhasesAdvanceOncePerReload : Prop :=
  ∀ (k : Nat) (a : Apu), a.power = true →
    (a.sweep.swen = false → a.ch1.ft = reload .ch1 a.regs →
      (advance k a).ch1.ft = reload .ch1 a.regs - k % reload .ch1 a.regs ∧
      (advance k a).ch1.ph.val = (a.ch1.ph.val + k / reload .ch1 a.regs) % 8) ∧
    (a.ch2.ft = reload .ch2 a.regs →
      (advance k a).ch2.ft = reload .ch2 a.regs - k % reload .ch2 a.regs ∧
      (advance k a).ch2.ph.val = (a.ch2.ph.val + k / reload .ch2 a.regs) % 8) ∧
    (a.ch3.ft = reload .ch3 a.regs →
      (advance k a).ch3.ft = reload .ch3 a.regs - k % reload .ch3 a.regs ∧
      (advance k a).ch3.ph.val = (a.ch3.ph.val + k / reload .ch3 a.regs) % 32)

/-- For every channel: a trigger written in the cycle whose frame-sequencer step expires the length
counter sets `en` (channel 3 with its DAC on) and keeps a counter of 1, and the length step of the same
cycle clears `en` again (rule R463, derived there). -/
def Obligations.SameCycleTriggerLosesToLengthExpiry : Prop :=
  ∀ (s : State) (p : Pins) (rest : List Input) (c : Channel), s.inputs = .clock p :: rest →
    p.rst = false → p.we = true → p.re = false → p.addr = controlAddr c →
    p.wdata.getLsbD 7 = true → p.wdata.getLsbD 6 = true →
    AtStep [0, 2, 4, 6] s.apu → lenOf c s.apu = 1 →
    ((c = .ch3 → s.apu.regs.nr30.getLsbD 7 = true) →
      enabled c (busWrite p.addr p.wdata s.apu) = true ∧
      lenOf c (busWrite p.addr p.wdata s.apu) = 1) ∧
    ∃ t, step s = .next t ∧ lenOf c t.apu = 0 ∧ enabled c t.apu = false

/-! ### The noise shift register -/

/-- `LfsrStep` bit by bit (rules R380, R446). -/
def Obligations.LfsrStepBits : Prop :=
  ∀ (narrow : Bool) (l : LfsrWord),
    (lfsrNext narrow l).getLsbD 14 = (l.getLsbD 0 ^^ l.getLsbD 1) ∧
    (lfsrNext narrow l).getLsbD 6 =
      (if narrow then l.getLsbD 0 ^^ l.getLsbD 1 else l.getLsbD 7) ∧
    (∀ j, j < 14 → j ≠ 6 → (lfsrNext narrow l).getLsbD j = l.getLsbD (j + 1))

/-- In wide mode the step is a bijection and never leads from a non-zero register to zero; in narrow
mode it is not injective (rules R382, R385, derived there). -/
def Obligations.LfsrWideIsABijection : Prop :=
  (∀ l m : LfsrWord, lfsrNext false l = lfsrNext false m → l = m) ∧
  (∀ m : LfsrWord, ∃ l, lfsrNext false l = m) ∧
  (∀ l : LfsrWord, l ≠ 0#15 → lfsrNext false l ≠ 0#15) ∧
  (∃ l m : LfsrWord, l ≠ m ∧ lfsrNext true l = lfsrNext true m)

/-- In narrow mode a register whose bits 6..0 are all zero drains to zero in at most 8 steps and
stays there, and one whose bits 6..0 are not all zero never drains (rule R385, derived there). -/
def Obligations.LfsrNarrowDrains : Prop :=
  (∀ (l : LfsrWord) (n : Nat), l.toNat % 128 = 0 → 8 ≤ n → (lfsrNext true)^[n] l = 0#15) ∧
  (∀ (l : LfsrWord) (n : Nat), l.toNat % 128 ≠ 0 → ((lfsrNext true)^[n] l).toNat % 128 ≠ 0)

/-- From the seed 0x7FFF in wide mode the register returns after exactly 32767 steps, and the first
narrow step leads into a cycle of exactly 127 (rule R382, derived there by enumeration). -/
def Obligations.LfsrSequenceLengths : Prop :=
  (lfsrNext false)^[32767] 0x7FFF#15 = 0x7FFF#15 ∧
  (∀ n, 0 < n → n < 32767 → (lfsrNext false)^[n] 0x7FFF#15 ≠ 0x7FFF#15) ∧
  (lfsrNext true)^[127] 0x3FBF#15 = 0x3FBF#15 ∧
  (∀ n, 0 < n → n < 127 → (lfsrNext true)^[n] 0x3FBF#15 ≠ 0x3FBF#15) ∧
  lfsrNext true 0x7FFF#15 = 0x3FBF#15 ∧
  (∀ n, 0 < n → (lfsrNext true)^[n] 0x7FFF#15 ≠ 0x7FFF#15)

/-! ### SAMPLE and the outputs -/

/-- `Out(1)` and `Out(2)` (rule R330) for every `DUTY_TABLE`: 0 while disabled, else the duty bit times
the volume, whatever the DAC is; at most 15 while the volume is. -/
def Obligations.PulseOutput : Prop :=
  ∀ (t : DutyTable) (a : Apu),
    out t .ch1 a = (if a.ch1.en = false then 0
      else (t (Fin.ofNat 4 (a.regs.nr11.toNat / 64)) a.ch1.ph).toNat * a.ch1.vol) ∧
    out t .ch2 a = (if a.ch2.en = false then 0
      else (t (Fin.ofNat 4 (a.regs.nr21.toNat / 64)) a.ch2.ph).toNat * a.ch2.vol) ∧
    (a.ch1.vol ≤ 15 → out t .ch1 a ≤ 15) ∧ (a.ch2.vol ≤ 15 → out t .ch2 a ≤ 15)

/-- The patterns of the default `DUTY_TABLE` have 1, 2, 4 and 6 ones of 8 (rule R331; they are the
spec's decision D13, log entry 13), and the spec's parameters meet its constraints on them. -/
def Obligations.DutyFractions : Prop :=
  (∀ t d p, dutyBit t d p = 0 ∨ dutyBit t d p = 1) ∧
  ((List.range 8).map (dutyBit dutyTable 0)).sum = 1 ∧
  ((List.range 8).map (dutyBit dutyTable 1)).sum = 2 ∧
  ((List.range 8).map (dutyBit dutyTable 2)).sum = 4 ∧
  ((List.range 8).map (dutyBit dutyTable 3)).sum = 6 ∧
  (List.range 8).map (dutyBit dutyTable 3) = [0, 1, 1, 1, 1, 1, 1, 0] ∧
  Params.spec.wf = true

/-- `Out(3)` (rule R350): 0 while disabled or with the DAC off, else the sample at `ph3`, high nibble
first, muted, full, halved or quartered (the positions of the two fields are the spec's decision D11,
log entry 14). -/
def Obligations.WaveOutput : Prop :=
  ∀ (d : DutyTable) (a : Apu) (b : Byte), a.mem.read (0xFF30 + a.ch3.ph.val / 2) = some b →
    out d .ch3 a =
      if a.ch3.en = false ∨ a.regs.nr30.getLsbD 7 = false then 0
      else
        let sample := if a.ch3.ph.val % 2 = 0 then b.toNat / 16 else b.toNat % 16
        if a.regs.nr32.toNat / 32 % 4 = 0 then 0
        else if a.regs.nr32.toNat / 32 % 4 = 1 then sample
        else if a.regs.nr32.toNat / 32 % 4 = 2 then sample / 2
        else sample / 4

/-- `Out(4)` (rule R390): the volume while enabled with bit 0 of the shift register 0; at most 15
while the volume is. -/
def Obligations.NoiseOutput : Prop :=
  ∀ (d : DutyTable) (a : Apu),
    (a.ch4.en = false → out d .ch4 a = 0) ∧
    (a.ch4.en = true → a.ch4.lfsr.getLsbD 0 = false → out d .ch4 a = a.ch4.vol) ∧
    (a.ch4.en = true → a.ch4.lfsr.getLsbD 0 = true → out d .ch4 a = 0) ∧
    (a.ch4.vol ≤ 15 → out d .ch4 a ≤ 15)

/-- `SAMPLE` (rule R430): silence while off, else the panned sums times the side volumes plus 1; it
changes no state (the positions of the panning and volume fields are the spec's decision D11, log
entry 14). Under every value of `DUTY_TABLE`. -/
def Obligations.SampleMixesTheChannels : Prop :=
  (∀ s : State, exec .sample s = .next { s with response := sampleOf dutyTable s.apu }) ∧
  (∀ (P : Params) (s : State) (rest : List Input), s.inputs = presentSample :: rest →
    stepWith P s = .next { s with inputs := rest, response := sampleOf P.dutyTable s.apu })

/-- The normalised frame is each side of the `SAMPLE` pair divided by `HEADROOM` (rule R432); in every
state that meets the invariant each channel's output is at most 15, a sample at most 480 a side, and
with a `HEADROOM` of 480 (the spec's decision D7, log entry 6) or more the normalised frame lies in
[0, 1] (rule R445). For every `DUTY_TABLE`. -/
def Obligations.SampleStaysInRange : Prop :=
  ∀ (d : DutyTable) (a : Apu),
    (∀ h : Nat, (normalised d h a).1 = ((samplePair d a).1 : Rat) / (h : Rat) ∧
      (normalised d h a).2 = ((samplePair d a).2 : Rat) / (h : Rat)) ∧
    sampleOf d a = .frame (samplePair d a).1 (samplePair d a).2 ∧
    (a.Inv → (∀ c, out d c a ≤ 15) ∧ (samplePair d a).1 ≤ 480 ∧ (samplePair d a).2 ≤ 480 ∧
      ∀ h : Nat, 480 ≤ h → 0 ≤ (normalised d h a).1 ∧ (normalised d h a).1 ≤ 1 ∧
        0 ≤ (normalised d h a).2 ∧ (normalised d h a).2 ≤ 1)

/-! ### Derived quantities -/

/-- The derived quantities (rule R151), from the stored bytes alone (field positions: the spec's
decisions D11 and D15, log entry 14). -/
def Obligations.DerivedQuantities : Prop :=
  (∀ r : Regs,
    period1 r = r.nr14.toNat % 8 * 256 + r.nr13.toNat ∧
    period2 r = r.nr24.toNat % 8 * 256 + r.nr23.toNat ∧
    period3 r = r.nr34.toNat % 8 * 256 + r.nr33.toNat ∧
    reload .ch1 r = (2048 - period1 r) * 4 ∧ reload .ch2 r = (2048 - period2 r) * 4 ∧
    reload .ch3 r = (2048 - period3 r) * 2 ∧
    baseDivisor r = (if r.nr43.toNat % 8 = 0 then 8 else 16 * (r.nr43.toNat % 8)) ∧
    reload .ch4 r = baseDivisor r * 2 ^ (r.nr43.toNat / 16) ∧
    lenEn .ch1 r = r.nr14.getLsbD 6 ∧ lenEn .ch2 r = r.nr24.getLsbD 6 ∧
    lenEn .ch3 r = r.nr34.getLsbD 6 ∧ lenEn .ch4 r = r.nr44.getLsbD 6 ∧
    waveDac r.nr30 = r.nr30.getLsbD 7 ∧
    sweepReload r = (if r.nr10.toNat / 16 % 8 = 0 then 8 else r.nr10.toNat / 16 % 8) ∧
    period1 r ≤ 2047 ∧ period2 r ≤ 2047 ∧ period3 r ≤ 2047 ∧
    8 ≤ baseDivisor r ∧ baseDivisor r ≤ 112 ∧ 1 ≤ sweepReload r ∧ sweepReload r ≤ 8) ∧
  (∀ b : Byte, dacOn b = decide (8 ≤ b.toNat))

/-- The ranges of the timer reloads; a reload is never 0 and no timer goes below 0, so after a
powered-on `TICK` every timer is at least 1 (rule R441; the spec's decisions D10 and D11). -/
def Obligations.ReloadsAreNeverZero : Prop :=
  (∀ r : Regs,
    4 ≤ reload .ch1 r ∧ reload .ch1 r ≤ 8192 ∧ 4 ≤ reload .ch2 r ∧ reload .ch2 r ≤ 8192 ∧
    2 ≤ reload .ch3 r ∧ reload .ch3 r ≤ 4096 ∧ 8 ≤ reload .ch4 r ∧ reload .ch4 r ≤ 3670016) ∧
  (∀ s : State, s.apu.power = true → ∃ t, exec .tick s = .next t ∧
    1 ≤ t.apu.ch1.ft ∧ 1 ≤ t.apu.ch2.ft ∧ 1 ≤ t.apu.ch3.ft ∧ 1 ≤ t.apu.ch4.ft)

/-! ### Whole-machine rules -/

/-- The life cycle of a channel (rule R434): only a trigger makes an Idle channel Active (for channel
3 only with its DAC on); only a length counter reaching 0, a sweep overflow (channel 1), a write that
turns the DAC off or a power-off makes an Active one Idle (what turns a DAC off is the spec's decision
D15, log entry 14). -/
def Obligations.ChannelLifeCycle : Prop :=
  ∀ (i : Instr) (s t : State) (c : Channel), exec i s = .next t →
    (enabled c s.apu = false → enabled c t.apu = true →
      s.apu.power = true ∧ ∃ v : Byte, v.getLsbD 7 = true ∧
        ((c = .ch1 ∧ i = .wrNr14 v) ∨ (c = .ch2 ∧ i = .wrNr24 v) ∨
         (c = .ch3 ∧ i = .wrNr34 v ∧ s.apu.regs.nr30.getLsbD 7 = true) ∨
         (c = .ch4 ∧ i = .wrNr44 v))) ∧
    (enabled c s.apu = true → enabled c t.apu = false →
      (i = .tick ∧ AtStep [0, 2, 4, 6] s.apu ∧ lenEn c s.apu.regs = true ∧
        lenOf c s.apu = 1 ∧ lenOf c t.apu = 0) ∨
      (i = .tick ∧ AtStep [2, 6] s.apu ∧ c = .ch1 ∧ s.apu.sweep.swen = true ∧
        s.apu.sweep.swt ≤ 1 ∧ 0 < s.apu.regs.nr10.toNat / 16 % 8 ∧
        2047 < sweepCandidate s.apu) ∨
      (∃ v : Byte, v.toNat < 8 ∧
        ((c = .ch1 ∧ i = .wrNr12 v) ∨ (c = .ch2 ∧ i = .wrNr22 v) ∨ (c = .ch4 ∧ i = .wrNr42 v))) ∨
      (∃ v : Byte, v.getLsbD 7 = false ∧ c = .ch3 ∧ i = .wrNr30 v) ∨
      (∃ v : Byte, v.getLsbD 7 = false ∧ i = .wrNr52 v))

/-- Who writes the stored bytes (rules R31, R33): a register byte changes only by a powered-on `WR` at
its own address, NR13 and NR14 bits 2..0 also by the sweep inside a `TICK`, NR50 and NR51 also by
power-off; a wave RAM byte only by a powered-on `WR` at its address (the spec's decision D22 for
the wave RAM). -/
def Obligations.StoredBytesHaveOnlyTheirWriters : Prop :=
  ∀ (i : Instr) (s t : State), exec i s = .next t →
    (∀ n : Reg, t.apu.regs.get n ≠ s.apu.regs.get n →
      (s.apu.power = true ∧ ∃ v, i = decodeWr n.addr v ∧ t.apu.regs.get n = v) ∨
      (i = .tick ∧ AtStep [2, 6] s.apu ∧ s.apu.sweep.swen = true ∧ (n = .nr13 ∨ n = .nr14)) ∨
      ((∃ v : Byte, i = .wrNr52 v ∧ v.getLsbD 7 = false) ∧ (n = .nr50 ∨ n = .nr51))) ∧
    (i = .tick → t.apu.regs.nr14.toNat / 8 = s.apu.regs.nr14.toNat / 8) ∧
    (∀ a, t.apu.mem.read a ≠ s.apu.mem.read a →
      s.apu.power = true ∧ ∃ k v, i = .wrWave k v ∧ a = 0xFF30 + k.toNat)
end

