-- ==== Sys2Proof/Laws/State.lean ====
section
/-!
SUPPORT. One lemma per field per update of the state, so that no proof unfolds a record update; and
the laws of the register file by name and of the register map by address.
-/

namespace Sys2Proof.Machine

section
variable (a : Apu) (x : Regs)
@[simp] theorem Apu.withRegs_regs : (a.withRegs x).regs = x := rfl
@[simp] theorem Apu.withRegs_mem : (a.withRegs x).mem = a.mem := rfl
@[simp] theorem Apu.withRegs_power : (a.withRegs x).power = a.power := rfl
@[simp] theorem Apu.withRegs_ch1 : (a.withRegs x).ch1 = a.ch1 := rfl
@[simp] theorem Apu.withRegs_sweep : (a.withRegs x).sweep = a.sweep := rfl
@[simp] theorem Apu.withRegs_ch2 : (a.withRegs x).ch2 = a.ch2 := rfl
@[simp] theorem Apu.withRegs_ch3 : (a.withRegs x).ch3 = a.ch3 := rfl
@[simp] theorem Apu.withRegs_ch4 : (a.withRegs x).ch4 = a.ch4 := rfl
@[simp] theorem Apu.withRegs_fs : (a.withRegs x).fs = a.fs := rfl
end

section
variable (a : Apu) (x : Memory)
@[simp] theorem Apu.withMem_regs : (a.withMem x).regs = a.regs := rfl
@[simp] theorem Apu.withMem_mem : (a.withMem x).mem = x := rfl
@[simp] theorem Apu.withMem_power : (a.withMem x).power = a.power := rfl
@[simp] theorem Apu.withMem_ch1 : (a.withMem x).ch1 = a.ch1 := rfl
@[simp] theorem Apu.withMem_sweep : (a.withMem x).sweep = a.sweep := rfl
@[simp] theorem Apu.withMem_ch2 : (a.withMem x).ch2 = a.ch2 := rfl
@[simp] theorem Apu.withMem_ch3 : (a.withMem x).ch3 = a.ch3 := rfl
@[simp] theorem Apu.withMem_ch4 : (a.withMem x).ch4 = a.ch4 := rfl
@[simp] theorem Apu.withMem_fs : (a.withMem x).fs = a.fs := rfl
end

section
variable (a : Apu) (x : Bool)
@[simp] theorem Apu.withPower_regs : (a.withPower x).regs = a.regs := rfl
@[simp] theorem Apu.withPower_mem : (a.withPower x).mem = a.mem := rfl
@[simp] theorem Apu.withPower_power : (a.withPower x).power = x := rfl
@[simp] theorem Apu.withPower_ch1 : (a.withPower x).ch1 = a.ch1 := rfl
@[simp] theorem Apu.withPower_sweep : (a.withPower x).sweep = a.sweep := rfl
@[simp] theorem Apu.withPower_ch2 : (a.withPower x).ch2 = a.ch2 := rfl
@[simp] theorem Apu.withPower_ch3 : (a.withPower x).ch3 = a.ch3 := rfl
@[simp] theorem Apu.withPower_ch4 : (a.withPower x).ch4 = a.ch4 := rfl
@[simp] theorem Apu.withPower_fs : (a.withPower x).fs = a.fs := rfl
end

section
variable (a : Apu) (x : Pulse)
@[simp] theorem Apu.withCh1_regs : (a.withCh1 x).regs = a.regs := rfl
@[simp] theorem Apu.withCh1_mem : (a.withCh1 x).mem = a.mem := rfl
@[simp] theorem Apu.withCh1_power : (a.withCh1 x).power = a.power := rfl
@[simp] theorem Apu.withCh1_ch1 : (a.withCh1 x).ch1 = x := rfl
@[simp] theorem Apu.withCh1_sweep : (a.withCh1 x).sweep = a.sweep := rfl
@[simp] theorem Apu.withCh1_ch2 : (a.withCh1 x).ch2 = a.ch2 := rfl
@[simp] theorem Apu.withCh1_ch3 : (a.withCh1 x).ch3 = a.ch3 := rfl
@[simp] theorem Apu.withCh1_ch4 : (a.withCh1 x).ch4 = a.ch4 := rfl
@[simp] theorem Apu.withCh1_fs : (a.withCh1 x).fs = a.fs := rfl
end

section
variable (a : Apu) (x : Sweep)
@[simp] theorem Apu.withSweep_regs : (a.withSweep x).regs = a.regs := rfl
@[simp] theorem Apu.withSweep_mem : (a.withSweep x).mem = a.mem := rfl
@[simp] theorem Apu.withSweep_power : (a.withSweep x).power = a.power := rfl
@[simp] theorem Apu.withSweep_ch1 : (a.withSweep x).ch1 = a.ch1 := rfl
@[simp] theorem Apu.withSweep_sweep : (a.withSweep x).sweep = x := rfl
@[simp] theorem Apu.withSweep_ch2 : (a.withSweep x).ch2 = a.ch2 := rfl
@[simp] theorem Apu.withSweep_ch3 : (a.withSweep x).ch3 = a.ch3 := rfl
@[simp] theorem Apu.withSweep_ch4 : (a.withSweep x).ch4 = a.ch4 := rfl
@[simp] theorem Apu.withSweep_fs : (a.withSweep x).fs = a.fs := rfl
end

section
variable (a : Apu) (x : Pulse)
@[simp] theorem Apu.withCh2_regs : (a.withCh2 x).regs = a.regs := rfl
@[simp] theorem Apu.withCh2_mem : (a.withCh2 x).mem = a.mem := rfl
@[simp] theorem Apu.withCh2_power : (a.withCh2 x).power = a.power := rfl
@[simp] theorem Apu.withCh2_ch1 : (a.withCh2 x).ch1 = a.ch1 := rfl
@[simp] theorem Apu.withCh2_sweep : (a.withCh2 x).sweep = a.sweep := rfl
@[simp] theorem Apu.withCh2_ch2 : (a.withCh2 x).ch2 = x := rfl
@[simp] theorem Apu.withCh2_ch3 : (a.withCh2 x).ch3 = a.ch3 := rfl
@[simp] theorem Apu.withCh2_ch4 : (a.withCh2 x).ch4 = a.ch4 := rfl
@[simp] theorem Apu.withCh2_fs : (a.withCh2 x).fs = a.fs := rfl
end

section
variable (a : Apu) (x : Wave)
@[simp] theorem Apu.withCh3_regs : (a.withCh3 x).regs = a.regs := rfl
@[simp] theorem Apu.withCh3_mem : (a.withCh3 x).mem = a.mem := rfl
@[simp] theorem Apu.withCh3_power : (a.withCh3 x).power = a.power := rfl
@[simp] theorem Apu.withCh3_ch1 : (a.withCh3 x).ch1 = a.ch1 := rfl
@[simp] theorem Apu.withCh3_sweep : (a.withCh3 x).sweep = a.sweep := rfl
@[simp] theorem Apu.withCh3_ch2 : (a.withCh3 x).ch2 = a.ch2 := rfl
@[simp] theorem Apu.withCh3_ch3 : (a.withCh3 x).ch3 = x := rfl
@[simp] theorem Apu.withCh3_ch4 : (a.withCh3 x).ch4 = a.ch4 := rfl
@[simp] theorem Apu.withCh3_fs : (a.withCh3 x).fs = a.fs := rfl
end

section
variable (a : Apu) (x : Noise)
@[simp] theorem Apu.withCh4_regs : (a.withCh4 x).regs = a.regs := rfl
@[simp] theorem Apu.withCh4_mem : (a.withCh4 x).mem = a.mem := rfl
@[simp] theorem Apu.withCh4_power : (a.withCh4 x).power = a.power := rfl
@[simp] theorem Apu.withCh4_ch1 : (a.withCh4 x).ch1 = a.ch1 := rfl
@[simp] theorem Apu.withCh4_sweep : (a.withCh4 x).sweep = a.sweep := rfl
@[simp] theorem Apu.withCh4_ch2 : (a.withCh4 x).ch2 = a.ch2 := rfl
@[simp] theorem Apu.withCh4_ch3 : (a.withCh4 x).ch3 = a.ch3 := rfl
@[simp] theorem Apu.withCh4_ch4 : (a.withCh4 x).ch4 = x := rfl
@[simp] theorem Apu.withCh4_fs : (a.withCh4 x).fs = a.fs := rfl
end

section
variable (a : Apu) (x : FrameSeq)
@[simp] theorem Apu.withFs_regs : (a.withFs x).regs = a.regs := rfl
@[simp] theorem Apu.withFs_mem : (a.withFs x).mem = a.mem := rfl
@[simp] theorem Apu.withFs_power : (a.withFs x).power = a.power := rfl
@[simp] theorem Apu.withFs_ch1 : (a.withFs x).ch1 = a.ch1 := rfl
@[simp] theorem Apu.withFs_sweep : (a.withFs x).sweep = a.sweep := rfl
@[simp] theorem Apu.withFs_ch2 : (a.withFs x).ch2 = a.ch2 := rfl
@[simp] theorem Apu.withFs_ch3 : (a.withFs x).ch3 = a.ch3 := rfl
@[simp] theorem Apu.withFs_ch4 : (a.withFs x).ch4 = a.ch4 := rfl
@[simp] theorem Apu.withFs_fs : (a.withFs x).fs = x := rfl
end

section
variable (s : State) (x : Apu)
@[simp] theorem State.withApu_apu : (s.withApu x).apu = x := rfl
@[simp] theorem State.withApu_inputs : (s.withApu x).inputs = s.inputs := rfl
@[simp] theorem State.withApu_response : (s.withApu x).response = s.response := rfl
end

section
variable (s : State) (x : List Input)
@[simp] theorem State.withInputs_apu : (s.withInputs x).apu = s.apu := rfl
@[simp] theorem State.withInputs_inputs : (s.withInputs x).inputs = x := rfl
@[simp] theorem State.withInputs_response : (s.withInputs x).response = s.response := rfl
end

section
variable (s : State) (x : Response)
@[simp] theorem State.withResponse_apu : (s.withResponse x).apu = s.apu := rfl
@[simp] theorem State.withResponse_inputs : (s.withResponse x).inputs = s.inputs := rfl
@[simp] theorem State.withResponse_response : (s.withResponse x).response = x := rfl
end

/-! ### Register bytes by name -/

@[simp] theorem Regs.get_set_same (r : Regs) (n : Reg) (v : Byte) : (r.set n v).get n = v := by
  cases n <;> rfl

theorem Regs.get_set_other (r : Regs) (v : Byte) {n q : Reg} (h : q ≠ n) :
    (r.set n v).get q = r.get q := by
  cases n <;> cases q <;> first | rfl | exact absurd rfl h

/-- Two register files with the same byte under every name are equal. -/
theorem Regs.ext_get {r q : Regs} (h : ∀ n, r.get n = q.get n) : r = q := by
  cases r; cases q
  simp only [Regs.mk.injEq]
  exact ⟨h .nr10, h .nr11, h .nr12, h .nr13, h .nr14, h .nr21, h .nr22, h .nr23, h .nr24, h .nr30, h .nr31, h .nr32, h .nr33, h .nr34, h .nr41, h .nr42, h .nr43, h .nr44, h .nr50, h .nr51⟩

@[simp] theorem Regs.set_nr10_nr10 (r : Regs) (v : Byte) : (r.set .nr10 v).nr10 = v := rfl
@[simp] theorem Regs.set_nr10_nr11 (r : Regs) (v : Byte) : (r.set .nr10 v).nr11 = r.nr11 := rfl
@[simp] theorem Regs.set_nr10_nr12 (r : Regs) (v : Byte) : (r.set .nr10 v).nr12 = r.nr12 := rfl
@[simp] theorem Regs.set_nr10_nr13 (r : Regs) (v : Byte) : (r.set .nr10 v).nr13 = r.nr13 := rfl
@[simp] theorem Regs.set_nr10_nr14 (r : Regs) (v : Byte) : (r.set .nr10 v).nr14 = r.nr14 := rfl
@[simp] theorem Regs.set_nr10_nr21 (r : Regs) (v : Byte) : (r.set .nr10 v).nr21 = r.nr21 := rfl
@[simp] theorem Regs.set_nr10_nr22 (r : Regs) (v : Byte) : (r.set .nr10 v).nr22 = r.nr22 := rfl
@[simp] theorem Regs.set_nr10_nr23 (r : Regs) (v : Byte) : (r.set .nr10 v).nr23 = r.nr23 := rfl
@[simp] theorem Regs.set_nr10_nr24 (r : Regs) (v : Byte) : (r.set .nr10 v).nr24 = r.nr24 := rfl
@[simp] theorem Regs.set_nr10_nr30 (r : Regs) (v : Byte) : (r.set .nr10 v).nr30 = r.nr30 := rfl
@[simp] theorem Regs.set_nr10_nr31 (r : Regs) (v : Byte) : (r.set .nr10 v).nr31 = r.nr31 := rfl
@[simp] theorem Regs.set_nr10_nr32 (r : Regs) (v : Byte) : (r.set .nr10 v).nr32 = r.nr32 := rfl
@[simp] theorem Regs.set_nr10_nr33 (r : Regs) (v : Byte) : (r.set .nr10 v).nr33 = r.nr33 := rfl
@[simp] theorem Regs.set_nr10_nr34 (r : Regs) (v : Byte) : (r.set .nr10 v).nr34 = r.nr34 := rfl
@[simp] theorem Regs.set_nr10_nr41 (r : Regs) (v : Byte) : (r.set .nr10 v).nr41 = r.nr41 := rfl
@[simp] theorem Regs.set_nr10_nr42 (r : Regs) (v : Byte) : (r.set .nr10 v).nr42 = r.nr42 := rfl
@[simp] theorem Regs.set_nr10_nr43 (r : Regs) (v : Byte) : (r.set .nr10 v).nr43 = r.nr43 := rfl
@[simp] theorem Regs.set_nr10_nr44 (r : Regs) (v : Byte) : (r.set .nr10 v).nr44 = r.nr44 := rfl
@[simp] theorem Regs.set_nr10_nr50 (r : Regs) (v : Byte) : (r.set .nr10 v).nr50 = r.nr50 := rfl
@[simp] theorem Regs.set_nr10_nr51 (r : Regs) (v : Byte) : (r.set .nr10 v).nr51 = r.nr51 := rfl
@[simp] theorem Regs.set_nr11_nr10 (r : Regs) (v : Byte) : (r.set .nr11 v).nr10 = r.nr10 := rfl
@[simp] theorem Regs.set_nr11_nr11 (r : Regs) (v : Byte) : (r.set .nr11 v).nr11 = v := rfl
@[simp] theorem Regs.set_nr11_nr12 (r : Regs) (v : Byte) : (r.set .nr11 v).nr12 = r.nr12 := rfl
@[simp] theorem Regs.set_nr11_nr13 (r : Regs) (v : Byte) : (r.set .nr11 v).nr13 = r.nr13 := rfl
@[simp] theorem Regs.set_nr11_nr14 (r : Regs) (v : Byte) : (r.set .nr11 v).nr14 = r.nr14 := rfl
@[simp] theorem Regs.set_nr11_nr21 (r : Regs) (v : Byte) : (r.set .nr11 v).nr21 = r.nr21 := rfl
@[simp] theorem Regs.set_nr11_nr22 (r : Regs) (v : Byte) : (r.set .nr11 v).nr22 = r.nr22 := rfl
@[simp] theorem Regs.set_nr11_nr23 (r : Regs) (v : Byte) : (r.set .nr11 v).nr23 = r.nr23 := rfl
@[simp] theorem Regs.set_nr11_nr24 (r : Regs) (v : Byte) : (r.set .nr11 v).nr24 = r.nr24 := rfl
@[simp] theorem Regs.set_nr11_nr30 (r : Regs) (v : Byte) : (r.set .nr11 v).nr30 = r.nr30 := rfl
@[simp] theorem Regs.set_nr11_nr31 (r : Regs) (v : Byte) : (r.set .nr11 v).nr31 = r.nr31 := rfl
@[simp] theorem Regs.set_nr11_nr32 (r : Regs) (v : Byte) : (r.set .nr11 v).nr32 = r.nr32 := rfl
@[simp] theorem Regs.set_nr11_nr33 (r : Regs) (v : Byte) : (r.set .nr11 v).nr33 = r.nr33 := rfl
@[simp] theorem Regs.set_nr11_nr34 (r : Regs) (v : Byte) : (r.set .nr11 v).nr34 = r.nr34 := rfl
@[simp] theorem Regs.set_nr11_nr41 (r : Regs) (v : Byte) : (r.set .nr11 v).nr41 = r.nr41 := rfl
@[simp] theorem Regs.set_nr11_nr42 (r : Regs) (v : Byte) : (r.set .nr11 v).nr42 = r.nr42 := rfl
@[simp] theorem Regs.set_nr11_nr43 (r : Regs) (v : Byte) : (r.set .nr11 v).nr43 = r.nr43 := rfl
@[simp] theorem Regs.set_nr11_nr44 (r : Regs) (v : Byte) : (r.set .nr11 v).nr44 = r.nr44 := rfl
@[simp] theorem Regs.set_nr11_nr50 (r : Regs) (v : Byte) : (r.set .nr11 v).nr50 = r.nr50 := rfl
@[simp] theorem Regs.set_nr11_nr51 (r : Regs) (v : Byte) : (r.set .nr11 v).nr51 = r.nr51 := rfl
@[simp] theorem Regs.set_nr12_nr10 (r : Regs) (v : Byte) : (r.set .nr12 v).nr10 = r.nr10 := rfl
@[simp] theorem Regs.set_nr12_nr11 (r : Regs) (v : Byte) : (r.set .nr12 v).nr11 = r.nr11 := rfl
@[simp] theorem Regs.set_nr12_nr12 (r : Regs) (v : Byte) : (r.set .nr12 v).nr12 = v := rfl
@[simp] theorem Regs.set_nr12_nr13 (r : Regs) (v : Byte) : (r.set .nr12 v).nr13 = r.nr13 := rfl
@[simp] theorem Regs.set_nr12_nr14 (r : Regs) (v : Byte) : (r.set .nr12 v).nr14 = r.nr14 := rfl
@[simp] theorem Regs.set_nr12_nr21 (r : Regs) (v : Byte) : (r.set .nr12 v).nr21 = r.nr21 := rfl
@[simp] theorem Regs.set_nr12_nr22 (r : Regs) (v : Byte) : (r.set .nr12 v).nr22 = r.nr22 := rfl
@[simp] theorem Regs.set_nr12_nr23 (r : Regs) (v : Byte) : (r.set .nr12 v).nr23 = r.nr23 := rfl
@[simp] theorem Regs.set_nr12_nr24 (r : Regs) (v : Byte) : (r.set .nr12 v).nr24 = r.nr24 := rfl
@[simp] theorem Regs.set_nr12_nr30 (r : Regs) (v : Byte) : (r.set .nr12 v).nr30 = r.nr30 := rfl
@[simp] theorem Regs.set_nr12_nr31 (r : Regs) (v : Byte) : (r.set .nr12 v).nr31 = r.nr31 := rfl
@[simp] theorem Regs.set_nr12_nr32 (r : Regs) (v : Byte) : (r.set .nr12 v).nr32 = r.nr32 := rfl
@[simp] theorem Regs.set_nr12_nr33 (r : Regs) (v : Byte) : (r.set .nr12 v).nr33 = r.nr33 := rfl
@[simp] theorem Regs.set_nr12_nr34 (r : Regs) (v : Byte) : (r.set .nr12 v).nr34 = r.nr34 := rfl
@[simp] theorem Regs.set_nr12_nr41 (r : Regs) (v : Byte) : (r.set .nr12 v).nr41 = r.nr41 := rfl
@[simp] theorem Regs.set_nr12_nr42 (r : Regs) (v : Byte) : (r.set .nr12 v).nr42 = r.nr42 := rfl
@[simp] theorem Regs.set_nr12_nr43 (r : Regs) (v : Byte) : (r.set .nr12 v).nr43 = r.nr43 := rfl
@[simp] theorem Regs.set_nr12_nr44 (r : Regs) (v : Byte) : (r.set .nr12 v).nr44 = r.nr44 := rfl
@[simp] theorem Regs.set_nr12_nr50 (r : Regs) (v : Byte) : (r.set .nr12 v).nr50 = r.nr50 := rfl
@[simp] theorem Regs.set_nr12_nr51 (r : Regs) (v : Byte) : (r.set .nr12 v).nr51 = r.nr51 := rfl
@[simp] theorem Regs.set_nr13_nr10 (r : Regs) (v : Byte) : (r.set .nr13 v).nr10 = r.nr10 := rfl
@[simp] theorem Regs.set_nr13_nr11 (r : Regs) (v : Byte) : (r.set .nr13 v).nr11 = r.nr11 := rfl
@[simp] theorem Regs.set_nr13_nr12 (r : Regs) (v : Byte) : (r.set .nr13 v).nr12 = r.nr12 := rfl
@[simp] theorem Regs.set_nr13_nr13 (r : Regs) (v : Byte) : (r.set .nr13 v).nr13 = v := rfl
@[simp] theorem Regs.set_nr13_nr14 (r : Regs) (v : Byte) : (r.set .nr13 v).nr14 = r.nr14 := rfl
@[simp] theorem Regs.set_nr13_nr21 (r : Regs) (v : Byte) : (r.set .nr13 v).nr21 = r.nr21 := rfl
@[simp] theorem Regs.set_nr13_nr22 (r : Regs) (v : Byte) : (r.set .nr13 v).nr22 = r.nr22 := rfl
@[simp] theorem Regs.set_nr13_nr23 (r : Regs) (v : Byte) : (r.set .nr13 v).nr23 = r.nr23 := rfl
@[simp] theorem Regs.set_nr13_nr24 (r : Regs) (v : Byte) : (r.set .nr13 v).nr24 = r.nr24 := rfl
@[simp] theorem Regs.set_nr13_nr30 (r : Regs) (v : Byte) : (r.set .nr13 v).nr30 = r.nr30 := rfl
@[simp] theorem Regs.set_nr13_nr31 (r : Regs) (v : Byte) : (r.set .nr13 v).nr31 = r.nr31 := rfl
@[simp] theorem Regs.set_nr13_nr32 (r : Regs) (v : Byte) : (r.set .nr13 v).nr32 = r.nr32 := rfl
@[simp] theorem Regs.set_nr13_nr33 (r : Regs) (v : Byte) : (r.set .nr13 v).nr33 = r.nr33 := rfl
@[simp] theorem Regs.set_nr13_nr34 (r : Regs) (v : Byte) : (r.set .nr13 v).nr34 = r.nr34 := rfl
@[simp] theorem Regs.set_nr13_nr41 (r : Regs) (v : Byte) : (r.set .nr13 v).nr41 = r.nr41 := rfl
@[simp] theorem Regs.set_nr13_nr42 (r : Regs) (v : Byte) : (r.set .nr13 v).nr42 = r.nr42 := rfl
@[simp] theorem Regs.set_nr13_nr43 (r : Regs) (v : Byte) : (r.set .nr13 v).nr43 = r.nr43 := rfl
@[simp] theorem Regs.set_nr13_nr44 (r : Regs) (v : Byte) : (r.set .nr13 v).nr44 = r.nr44 := rfl
@[simp] theorem Regs.set_nr13_nr50 (r : Regs) (v : Byte) : (r.set .nr13 v).nr50 = r.nr50 := rfl
@[simp] theorem Regs.set_nr13_nr51 (r : Regs) (v : Byte) : (r.set .nr13 v).nr51 = r.nr51 := rfl
@[simp] theorem Regs.set_nr14_nr10 (r : Regs) (v : Byte) : (r.set .nr14 v).nr10 = r.nr10 := rfl
@[simp] theorem Regs.set_nr14_nr11 (r : Regs) (v : Byte) : (r.set .nr14 v).nr11 = r.nr11 := rfl
@[simp] theorem Regs.set_nr14_nr12 (r : Regs) (v : Byte) : (r.set .nr14 v).nr12 = r.nr12 := rfl
@[simp] theorem Regs.set_nr14_nr13 (r : Regs) (v : Byte) : (r.set .nr14 v).nr13 = r.nr13 := rfl
@[simp] theorem Regs.set_nr14_nr14 (r : Regs) (v : Byte) : (r.set .nr14 v).nr14 = v := rfl
@[simp] theorem Regs.set_nr14_nr21 (r : Regs) (v : Byte) : (r.set .nr14 v).nr21 = r.nr21 := rfl
@[simp] theorem Regs.set_nr14_nr22 (r : Regs) (v : Byte) : (r.set .nr14 v).nr22 = r.nr22 := rfl
@[simp] theorem Regs.set_nr14_nr23 (r : Regs) (v : Byte) : (r.set .nr14 v).nr23 = r.nr23 := rfl
@[simp] theorem Regs.set_nr14_nr24 (r : Regs) (v : Byte) : (r.set .nr14 v).nr24 = r.nr24 := rfl
@[simp] theorem Regs.set_nr14_nr30 (r : Regs) (v : Byte) : (r.set .nr14 v).nr30 = r.nr30 := rfl
@[simp] theorem Regs.set_nr14_nr31 (r : Regs) (v : Byte) : (r.set .nr14 v).nr31 = r.nr31 := rfl
@[simp] theorem Regs.set_nr14_nr32 (r : Regs) (v : Byte) : (r.set .nr14 v).nr32 = r.nr32 := rfl
@[simp] theorem Regs.set_nr14_nr33 (r : Regs) (v : Byte) : (r.set .nr14 v).nr33 = r.nr33 := rfl
@[simp] theorem Regs.set_nr14_nr34 (r : Regs) (v : Byte) : (r.set .nr14 v).nr34 = r.nr34 := rfl
@[simp] theorem Regs.set_nr14_nr41 (r : Regs) (v : Byte) : (r.set .nr14 v).nr41 = r.nr41 := rfl
@[simp] theorem Regs.set_nr14_nr42 (r : Regs) (v : Byte) : (r.set .nr14 v).nr42 = r.nr42 := rfl
@[simp] theorem Regs.set_nr14_nr43 (r : Regs) (v : Byte) : (r.set .nr14 v).nr43 = r.nr43 := rfl
@[simp] theorem Regs.set_nr14_nr44 (r : Regs) (v : Byte) : (r.set .nr14 v).nr44 = r.nr44 := rfl
@[simp] theorem Regs.set_nr14_nr50 (r : Regs) (v : Byte) : (r.set .nr14 v).nr50 = r.nr50 := rfl
@[simp] theorem Regs.set_nr14_nr51 (r : Regs) (v : Byte) : (r.set .nr14 v).nr51 = r.nr51 := rfl
@[simp] theorem Regs.set_nr21_nr10 (r : Regs) (v : Byte) : (r.set .nr21 v).nr10 = r.nr10 := rfl
@[simp] theorem Regs.set_nr21_nr11 (r : Regs) (v : Byte) : (r.set .nr21 v).nr11 = r.nr11 := rfl
@[simp] theorem Regs.set_nr21_nr12 (r : Regs) (v : Byte) : (r.set .nr21 v).nr12 = r.nr12 := rfl
@[simp] theorem Regs.set_nr21_nr13 (r : Regs) (v : Byte) : (r.set .nr21 v).nr13 = r.nr13 := rfl
@[simp] theorem Regs.set_nr21_nr14 (r : Regs) (v : Byte) : (r.set .nr21 v).nr14 = r.nr14 := rfl
@[simp] theorem Regs.set_nr21_nr21 (r : Regs) (v : Byte) : (r.set .nr21 v).nr21 = v := rfl
@[simp] theorem Regs.set_nr21_nr22 (r : Regs) (v : Byte) : (r.set .nr21 v).nr22 = r.nr22 := rfl
@[simp] theorem Regs.set_nr21_nr23 (r : Regs) (v : Byte) : (r.set .nr21 v).nr23 = r.nr23 := rfl
@[simp] theorem Regs.set_nr21_nr24 (r : Regs) (v : Byte) : (r.set .nr21 v).nr24 = r.nr24 := rfl
@[simp] theorem Regs.set_nr21_nr30 (r : Regs) (v : Byte) : (r.set .nr21 v).nr30 = r.nr30 := rfl
@[simp] theorem Regs.set_nr21_nr31 (r : Regs) (v : Byte) : (r.set .nr21 v).nr31 = r.nr31 := rfl
@[simp] theorem Regs.set_nr21_nr32 (r : Regs) (v : Byte) : (r.set .nr21 v).nr32 = r.nr32 := rfl
@[simp] theorem Regs.set_nr21_nr33 (r : Regs) (v : Byte) : (r.set .nr21 v).nr33 = r.nr33 := rfl
@[simp] theorem Regs.set_nr21_nr34 (r : Regs) (v : Byte) : (r.set .nr21 v).nr34 = r.nr34 := rfl
@[simp] theorem Regs.set_nr21_nr41 (r : Regs) (v : Byte) : (r.set .nr21 v).nr41 = r.nr41 := rfl
@[simp] theorem Regs.set_nr21_nr42 (r : Regs) (v : Byte) : (r.set .nr21 v).nr42 = r.nr42 := rfl
@[simp] theorem Regs.set_nr21_nr43 (r : Regs) (v : Byte) : (r.set .nr21 v).nr43 = r.nr43 := rfl
@[simp] theorem Regs.set_nr21_nr44 (r : Regs) (v : Byte) : (r.set .nr21 v).nr44 = r.nr44 := rfl
@[simp] theorem Regs.set_nr21_nr50 (r : Regs) (v : Byte) : (r.set .nr21 v).nr50 = r.nr50 := rfl
@[simp] theorem Regs.set_nr21_nr51 (r : Regs) (v : Byte) : (r.set .nr21 v).nr51 = r.nr51 := rfl
@[simp] theorem Regs.set_nr22_nr10 (r : Regs) (v : Byte) : (r.set .nr22 v).nr10 = r.nr10 := rfl
@[simp] theorem Regs.set_nr22_nr11 (r : Regs) (v : Byte) : (r.set .nr22 v).nr11 = r.nr11 := rfl
@[simp] theorem Regs.set_nr22_nr12 (r : Regs) (v : Byte) : (r.set .nr22 v).nr12 = r.nr12 := rfl
@[simp] theorem Regs.set_nr22_nr13 (r : Regs) (v : Byte) : (r.set .nr22 v).nr13 = r.nr13 := rfl
@[simp] theorem Regs.set_nr22_nr14 (r : Regs) (v : Byte) : (r.set .nr22 v).nr14 = r.nr14 := rfl
@[simp] theorem Regs.set_nr22_nr21 (r : Regs) (v : Byte) : (r.set .nr22 v).nr21 = r.nr21 := rfl
@[simp] theorem Regs.set_nr22_nr22 (r : Regs) (v : Byte) : (r.set .nr22 v).nr22 = v := rfl
@[simp] theorem Regs.set_nr22_nr23 (r : Regs) (v : Byte) : (r.set .nr22 v).nr23 = r.nr23 := rfl
@[simp] theorem Regs.set_nr22_nr24 (r : Regs) (v : Byte) : (r.set .nr22 v).nr24 = r.nr24 := rfl
@[simp] theorem Regs.set_nr22_nr30 (r : Regs) (v : Byte) : (r.set .nr22 v).nr30 = r.nr30 := rfl
@[simp] theorem Regs.set_nr22_nr31 (r : Regs) (v : Byte) : (r.set .nr22 v).nr31 = r.nr31 := rfl
@[simp] theorem Regs.set_nr22_nr32 (r : Regs) (v : Byte) : (r.set .nr22 v).nr32 = r.nr32 := rfl
@[simp] theorem Regs.set_nr22_nr33 (r : Regs) (v : Byte) : (r.set .nr22 v).nr33 = r.nr33 := rfl
@[simp] theorem Regs.set_nr22_nr34 (r : Regs) (v : Byte) : (r.set .nr22 v).nr34 = r.nr34 := rfl
@[simp] theorem Regs.set_nr22_nr41 (r : Regs) (v : Byte) : (r.set .nr22 v).nr41 = r.nr41 := rfl
@[simp] theorem Regs.set_nr22_nr42 (r : Regs) (v : Byte) : (r.set .nr22 v).nr42 = r.nr42 := rfl
@[simp] theorem Regs.set_nr22_nr43 (r : Regs) (v : Byte) : (r.set .nr22 v).nr43 = r.nr43 := rfl
@[simp] theorem Regs.set_nr22_nr44 (r : Regs) (v : Byte) : (r.set .nr22 v).nr44 = r.nr44 := rfl
@[simp] theorem Regs.set_nr22_nr50 (r : Regs) (v : Byte) : (r.set .nr22 v).nr50 = r.nr50 := rfl
@[simp] theorem Regs.set_nr22_nr51 (r : Regs) (v : Byte) : (r.set .nr22 v).nr51 = r.nr51 := rfl
@[simp] theorem Regs.set_nr23_nr10 (r : Regs) (v : Byte) : (r.set .nr23 v).nr10 = r.nr10 := rfl
@[simp] theorem Regs.set_nr23_nr11 (r : Regs) (v : Byte) : (r.set .nr23 v).nr11 = r.nr11 := rfl
@[simp] theorem Regs.set_nr23_nr12 (r : Regs) (v : Byte) : (r.set .nr23 v).nr12 = r.nr12 := rfl
@[simp] theorem Regs.set_nr23_nr13 (r : Regs) (v : Byte) : (r.set .nr23 v).nr13 = r.nr13 := rfl
@[simp] theorem Regs.set_nr23_nr14 (r : Regs) (v : Byte) : (r.set .nr23 v).nr14 = r.nr14 := rfl
@[simp] theorem Regs.set_nr23_nr21 (r : Regs) (v : Byte) : (r.set .nr23 v).nr21 = r.nr21 := rfl
@[simp] theorem Regs.set_nr23_nr22 (r : Regs) (v : Byte) : (r.set .nr23 v).nr22 = r.nr22 := rfl
@[simp] theorem Regs.set_nr23_nr23 (r : Regs) (v : Byte) : (r.set .nr23 v).nr23 = v := rfl
@[simp] theorem Regs.set_nr23_nr24 (r : Regs) (v : Byte) : (r.set .nr23 v).nr24 = r.nr24 := rfl
@[simp] theorem Regs.set_nr23_nr30 (r : Regs) (v : Byte) : (r.set .nr23 v).nr30 = r.nr30 := rfl
@[simp] theorem Regs.set_nr23_nr31 (r : Regs) (v : Byte) : (r.set .nr23 v).nr31 = r.nr31 := rfl
@[simp] theorem Regs.set_nr23_nr32 (r : Regs) (v : Byte) : (r.set .nr23 v).nr32 = r.nr32 := rfl
@[simp] theorem Regs.set_nr23_nr33 (r : Regs) (v : Byte) : (r.set .nr23 v).nr33 = r.nr33 := rfl
@[simp] theorem Regs.set_nr23_nr34 (r : Regs) (v : Byte) : (r.set .nr23 v).nr34 = r.nr34 := rfl
@[simp] theorem Regs.set_nr23_nr41 (r : Regs) (v : Byte) : (r.set .nr23 v).nr41 = r.nr41 := rfl
@[simp] theorem Regs.set_nr23_nr42 (r : Regs) (v : Byte) : (r.set .nr23 v).nr42 = r.nr42 := rfl
@[simp] theorem Regs.set_nr23_nr43 (r : Regs) (v : Byte) : (r.set .nr23 v).nr43 = r.nr43 := rfl
@[simp] theorem Regs.set_nr23_nr44 (r : Regs) (v : Byte) : (r.set .nr23 v).nr44 = r.nr44 := rfl
@[simp] theorem Regs.set_nr23_nr50 (r : Regs) (v : Byte) : (r.set .nr23 v).nr50 = r.nr50 := rfl
@[simp] theorem Regs.set_nr23_nr51 (r : Regs) (v : Byte) : (r.set .nr23 v).nr51 = r.nr51 := rfl
@[simp] theorem Regs.set_nr24_nr10 (r : Regs) (v : Byte) : (r.set .nr24 v).nr10 = r.nr10 := rfl
@[simp] theorem Regs.set_nr24_nr11 (r : Regs) (v : Byte) : (r.set .nr24 v).nr11 = r.nr11 := rfl
@[simp] theorem Regs.set_nr24_nr12 (r : Regs) (v : Byte) : (r.set .nr24 v).nr12 = r.nr12 := rfl
@[simp] theorem Regs.set_nr24_nr13 (r : Regs) (v : Byte) : (r.set .nr24 v).nr13 = r.nr13 := rfl
@[simp] theorem Regs.set_nr24_nr14 (r : Regs) (v : Byte) : (r.set .nr24 v).nr14 = r.nr14 := rfl
@[simp] theorem Regs.set_nr24_nr21 (r : Regs) (v : Byte) : (r.set .nr24 v).nr21 = r.nr21 := rfl
@[simp] theorem Regs.set_nr24_nr22 (r : Regs) (v : Byte) : (r.set .nr24 v).nr22 = r.nr22 := rfl
@[simp] theorem Regs.set_nr24_nr23 (r : Regs) (v : Byte) : (r.set .nr24 v).nr23 = r.nr23 := rfl
@[simp] theorem Regs.set_nr24_nr24 (r : Regs) (v : Byte) : (r.set .nr24 v).nr24 = v := rfl
@[simp] theorem Regs.set_nr24_nr30 (r : Regs) (v : Byte) : (r.set .nr24 v).nr30 = r.nr30 := rfl
@[simp] theorem Regs.set_nr24_nr31 (r : Regs) (v : Byte) : (r.set .nr24 v).nr31 = r.nr31 := rfl
@[simp] theorem Regs.set_nr24_nr32 (r : Regs) (v : Byte) : (r.set .nr24 v).nr32 = r.nr32 := rfl
@[simp] theorem Regs.set_nr24_nr33 (r : Regs) (v : Byte) : (r.set .nr24 v).nr33 = r.nr33 := rfl
@[simp] theorem Regs.set_nr24_nr34 (r : Regs) (v : Byte) : (r.set .nr24 v).nr34 = r.nr34 := rfl
@[simp] theorem Regs.set_nr24_nr41 (r : Regs) (v : Byte) : (r.set .nr24 v).nr41 = r.nr41 := rfl
@[simp] theorem Regs.set_nr24_nr42 (r : Regs) (v : Byte) : (r.set .nr24 v).nr42 = r.nr42 := rfl
@[simp] theorem Regs.set_nr24_nr43 (r : Regs) (v : Byte) : (r.set .nr24 v).nr43 = r.nr43 := rfl
@[simp] theorem Regs.set_nr24_nr44 (r : Regs) (v : Byte) : (r.set .nr24 v).nr44 = r.nr44 := rfl
@[simp] theorem Regs.set_nr24_nr50 (r : Regs) (v : Byte) : (r.set .nr24 v).nr50 = r.nr50 := rfl
@[simp] theorem Regs.set_nr24_nr51 (r : Regs) (v : Byte) : (r.set .nr24 v).nr51 = r.nr51 := rfl
@[simp] theorem Regs.set_nr30_nr10 (r : Regs) (v : Byte) : (r.set .nr30 v).nr10 = r.nr10 := rfl
@[simp] theorem Regs.set_nr30_nr11 (r : Regs) (v : Byte) : (r.set .nr30 v).nr11 = r.nr11 := rfl
@[simp] theorem Regs.set_nr30_nr12 (r : Regs) (v : Byte) : (r.set .nr30 v).nr12 = r.nr12 := rfl
@[simp] theorem Regs.set_nr30_nr13 (r : Regs) (v : Byte) : (r.set .nr30 v).nr13 = r.nr13 := rfl
@[simp] theorem Regs.set_nr30_nr14 (r : Regs) (v : Byte) : (r.set .nr30 v).nr14 = r.nr14 := rfl
@[simp] theorem Regs.set_nr30_nr21 (r : Regs) (v : Byte) : (r.set .nr30 v).nr21 = r.nr21 := rfl
@[simp] theorem Regs.set_nr30_nr22 (r : Regs) (v : Byte) : (r.set .nr30 v).nr22 = r.nr22 := rfl
@[simp] theorem Regs.set_nr30_nr23 (r : Regs) (v : Byte) : (r.set .nr30 v).nr23 = r.nr23 := rfl
@[simp] theorem Regs.set_nr30_nr24 (r : Regs) (v : Byte) : (r.set .nr30 v).nr24 = r.nr24 := rfl
@[simp] theorem Regs.set_nr30_nr30 (r : Regs) (v : Byte) : (r.set .nr30 v).nr30 = v := rfl
@[simp] theorem Regs.set_nr30_nr31 (r : Regs) (v : Byte) : (r.set .nr30 v).nr31 = r.nr31 := rfl
@[simp] theorem Regs.set_nr30_nr32 (r : Regs) (v : Byte) : (r.set .nr30 v).nr32 = r.nr32 := rfl
@[simp] theorem Regs.set_nr30_nr33 (r : Regs) (v : Byte) : (r.set .nr30 v).nr33 = r.nr33 := rfl
@[simp] theorem Regs.set_nr30_nr34 (r : Regs) (v : Byte) : (r.set .nr30 v).nr34 = r.nr34 := rfl
@[simp] theorem Regs.set_nr30_nr41 (r : Regs) (v : Byte) : (r.set .nr30 v).nr41 = r.nr41 := rfl
@[simp] theorem Regs.set_nr30_nr42 (r : Regs) (v : Byte) : (r.set .nr30 v).nr42 = r.nr42 := rfl
@[simp] theorem Regs.set_nr30_nr43 (r : Regs) (v : Byte) : (r.set .nr30 v).nr43 = r.nr43 := rfl
@[simp] theorem Regs.set_nr30_nr44 (r : Regs) (v : Byte) : (r.set .nr30 v).nr44 = r.nr44 := rfl
@[simp] theorem Regs.set_nr30_nr50 (r : Regs) (v : Byte) : (r.set .nr30 v).nr50 = r.nr50 := rfl
@[simp] theorem Regs.set_nr30_nr51 (r : Regs) (v : Byte) : (r.set .nr30 v).nr51 = r.nr51 := rfl
@[simp] theorem Regs.set_nr31_nr10 (r : Regs) (v : Byte) : (r.set .nr31 v).nr10 = r.nr10 := rfl
@[simp] theorem Regs.set_nr31_nr11 (r : Regs) (v : Byte) : (r.set .nr31 v).nr11 = r.nr11 := rfl
@[simp] theorem Regs.set_nr31_nr12 (r : Regs) (v : Byte) : (r.set .nr31 v).nr12 = r.nr12 := rfl
@[simp] theorem Regs.set_nr31_nr13 (r : Regs) (v : Byte) : (r.set .nr31 v).nr13 = r.nr13 := rfl
@[simp] theorem Regs.set_nr31_nr14 (r : Regs) (v : Byte) : (r.set .nr31 v).nr14 = r.nr14 := rfl
@[simp] theorem Regs.set_nr31_nr21 (r : Regs) (v : Byte) : (r.set .nr31 v).nr21 = r.nr21 := rfl
@[simp] theorem Regs.set_nr31_nr22 (r : Regs) (v : Byte) : (r.set .nr31 v).nr22 = r.nr22 := rfl
@[simp] theorem Regs.set_nr31_nr23 (r : Regs) (v : Byte) : (r.set .nr31 v).nr23 = r.nr23 := rfl
@[simp] theorem Regs.set_nr31_nr24 (r : Regs) (v : Byte) : (r.set .nr31 v).nr24 = r.nr24 := rfl
@[simp] theorem Regs.set_nr31_nr30 (r : Regs) (v : Byte) : (r.set .nr31 v).nr30 = r.nr30 := rfl
@[simp] theorem Regs.set_nr31_nr31 (r : Regs) (v : Byte) : (r.set .nr31 v).nr31 = v := rfl
@[simp] theorem Regs.set_nr31_nr32 (r : Regs) (v : Byte) : (r.set .nr31 v).nr32 = r.nr32 := rfl
@[simp] theorem Regs.set_nr31_nr33 (r : Regs) (v : Byte) : (r.set .nr31 v).nr33 = r.nr33 := rfl
@[simp] theorem Regs.set_nr31_nr34 (r : Regs) (v : Byte) : (r.set .nr31 v).nr34 = r.nr34 := rfl
@[simp] theorem Regs.set_nr31_nr41 (r : Regs) (v : Byte) : (r.set .nr31 v).nr41 = r.nr41 := rfl
@[simp] theorem Regs.set_nr31_nr42 (r : Regs) (v : Byte) : (r.set .nr31 v).nr42 = r.nr42 := rfl
@[simp] theorem Regs.set_nr31_nr43 (r : Regs) (v : Byte) : (r.set .nr31 v).nr43 = r.nr43 := rfl
@[simp] theorem Regs.set_nr31_nr44 (r : Regs) (v : Byte) : (r.set .nr31 v).nr44 = r.nr44 := rfl
@[simp] theorem Regs.set_nr31_nr50 (r : Regs) (v : Byte) : (r.set .nr31 v).nr50 = r.nr50 := rfl
@[simp] theorem Regs.set_nr31_nr51 (r : Regs) (v : Byte) : (r.set .nr31 v).nr51 = r.nr51 := rfl
@[simp] theorem Regs.set_nr32_nr10 (r : Regs) (v : Byte) : (r.set .nr32 v).nr10 = r.nr10 := rfl
@[simp] theorem Regs.set_nr32_nr11 (r : Regs) (v : Byte) : (r.set .nr32 v).nr11 = r.nr11 := rfl
@[simp] theorem Regs.set_nr32_nr12 (r : Regs) (v : Byte) : (r.set .nr32 v).nr12 = r.nr12 := rfl
@[simp] theorem Regs.set_nr32_nr13 (r : Regs) (v : Byte) : (r.set .nr32 v).nr13 = r.nr13 := rfl
@[simp] theorem Regs.set_nr32_nr14 (r : Regs) (v : Byte) : (r.set .nr32 v).nr14 = r.nr14 := rfl
@[simp] theorem Regs.set_nr32_nr21 (r : Regs) (v : Byte) : (r.set .nr32 v).nr21 = r.nr21 := rfl
@[simp] theorem Regs.set_nr32_nr22 (r : Regs) (v : Byte) : (r.set .nr32 v).nr22 = r.nr22 := rfl
@[simp] theorem Regs.set_nr32_nr23 (r : Regs) (v : Byte) : (r.set .nr32 v).nr23 = r.nr23 := rfl
@[simp] theorem Regs.set_nr32_nr24 (r : Regs) (v : Byte) : (r.set .nr32 v).nr24 = r.nr24 := rfl
@[simp] theorem Regs.set_nr32_nr30 (r : Regs) (v : Byte) : (r.set .nr32 v).nr30 = r.nr30 := rfl
@[simp] theorem Regs.set_nr32_nr31 (r : Regs) (v : Byte) : (r.set .nr32 v).nr31 = r.nr31 := rfl
@[simp] theorem Regs.set_nr32_nr32 (r : Regs) (v : Byte) : (r.set .nr32 v).nr32 = v := rfl
@[simp] theorem Regs.set_nr32_nr33 (r : Regs) (v : Byte) : (r.set .nr32 v).nr33 = r.nr33 := rfl
@[simp] theorem Regs.set_nr32_nr34 (r : Regs) (v : Byte) : (r.set .nr32 v).nr34 = r.nr34 := rfl
@[simp] theorem Regs.set_nr32_nr41 (r : Regs) (v : Byte) : (r.set .nr32 v).nr41 = r.nr41 := rfl
@[simp] theorem Regs.set_nr32_nr42 (r : Regs) (v : Byte) : (r.set .nr32 v).nr42 = r.nr42 := rfl
@[simp] theorem Regs.set_nr32_nr43 (r : Regs) (v : Byte) : (r.set .nr32 v).nr43 = r.nr43 := rfl
@[simp] theorem Regs.set_nr32_nr44 (r : Regs) (v : Byte) : (r.set .nr32 v).nr44 = r.nr44 := rfl
@[simp] theorem Regs.set_nr32_nr50 (r : Regs) (v : Byte) : (r.set .nr32 v).nr50 = r.nr50 := rfl
@[simp] theorem Regs.set_nr32_nr51 (r : Regs) (v : Byte) : (r.set .nr32 v).nr51 = r.nr51 := rfl
@[simp] theorem Regs.set_nr33_nr10 (r : Regs) (v : Byte) : (r.set .nr33 v).nr10 = r.nr10 := rfl
@[simp] theorem Regs.set_nr33_nr11 (r : Regs) (v : Byte) : (r.set .nr33 v).nr11 = r.nr11 := rfl
@[simp] theorem Regs.set_nr33_nr12 (r : Regs) (v : Byte) : (r.set .nr33 v).nr12 = r.nr12 := rfl
@[simp] theorem Regs.set_nr33_nr13 (r : Regs) (v : Byte) : (r.set .nr33 v).nr13 = r.nr13 := rfl
@[simp] theorem Regs.set_nr33_nr14 (r : Regs) (v : Byte) : (r.set .nr33 v).nr14 = r.nr14 := rfl
@[simp] theorem Regs.set_nr33_nr21 (r : Regs) (v : Byte) : (r.set .nr33 v).nr21 = r.nr21 := rfl
@[simp] theorem Regs.set_nr33_nr22 (r : Regs) (v : Byte) : (r.set .nr33 v).nr22 = r.nr22 := rfl
@[simp] theorem Regs.set_nr33_nr23 (r : Regs) (v : Byte) : (r.set .nr33 v).nr23 = r.nr23 := rfl
@[simp] theorem Regs.set_nr33_nr24 (r : Regs) (v : Byte) : (r.set .nr33 v).nr24 = r.nr24 := rfl
@[simp] theorem Regs.set_nr33_nr30 (r : Regs) (v : Byte) : (r.set .nr33 v).nr30 = r.nr30 := rfl
@[simp] theorem Regs.set_nr33_nr31 (r : Regs) (v : Byte) : (r.set .nr33 v).nr31 = r.nr31 := rfl
@[simp] theorem Regs.set_nr33_nr32 (r : Regs) (v : Byte) : (r.set .nr33 v).nr32 = r.nr32 := rfl
@[simp] theorem Regs.set_nr33_nr33 (r : Regs) (v : Byte) : (r.set .nr33 v).nr33 = v := rfl
@[simp] theorem Regs.set_nr33_nr34 (r : Regs) (v : Byte) : (r.set .nr33 v).nr34 = r.nr34 := rfl
@[simp] theorem Regs.set_nr33_nr41 (r : Regs) (v : Byte) : (r.set .nr33 v).nr41 = r.nr41 := rfl
@[simp] theorem Regs.set_nr33_nr42 (r : Regs) (v : Byte) : (r.set .nr33 v).nr42 = r.nr42 := rfl
@[simp] theorem Regs.set_nr33_nr43 (r : Regs) (v : Byte) : (r.set .nr33 v).nr43 = r.nr43 := rfl
@[simp] theorem Regs.set_nr33_nr44 (r : Regs) (v : Byte) : (r.set .nr33 v).nr44 = r.nr44 := rfl
@[simp] theorem Regs.set_nr33_nr50 (r : Regs) (v : Byte) : (r.set .nr33 v).nr50 = r.nr50 := rfl
@[simp] theorem Regs.set_nr33_nr51 (r : Regs) (v : Byte) : (r.set .nr33 v).nr51 = r.nr51 := rfl
@[simp] theorem Regs.set_nr34_nr10 (r : Regs) (v : Byte) : (r.set .nr34 v).nr10 = r.nr10 := rfl
@[simp] theorem Regs.set_nr34_nr11 (r : Regs) (v : Byte) : (r.set .nr34 v).nr11 = r.nr11 := rfl
@[simp] theorem Regs.set_nr34_nr12 (r : Regs) (v : Byte) : (r.set .nr34 v).nr12 = r.nr12 := rfl
@[simp] theorem Regs.set_nr34_nr13 (r : Regs) (v : Byte) : (r.set .nr34 v).nr13 = r.nr13 := rfl
@[simp] theorem Regs.set_nr34_nr14 (r : Regs) (v : Byte) : (r.set .nr34 v).nr14 = r.nr14 := rfl
@[simp] theorem Regs.set_nr34_nr21 (r : Regs) (v : Byte) : (r.set .nr34 v).nr21 = r.nr21 := rfl
@[simp] theorem Regs.set_nr34_nr22 (r : Regs) (v : Byte) : (r.set .nr34 v).nr22 = r.nr22 := rfl
@[simp] theorem Regs.set_nr34_nr23 (r : Regs) (v : Byte) : (r.set .nr34 v).nr23 = r.nr23 := rfl
@[simp] theorem Regs.set_nr34_nr24 (r : Regs) (v : Byte) : (r.set .nr34 v).nr24 = r.nr24 := rfl
@[simp] theorem Regs.set_nr34_nr30 (r : Regs) (v : Byte) : (r.set .nr34 v).nr30 = r.nr30 := rfl
@[simp] theorem Regs.set_nr34_nr31 (r : Regs) (v : Byte) : (r.set .nr34 v).nr31 = r.nr31 := rfl
@[simp] theorem Regs.set_nr34_nr32 (r : Regs) (v : Byte) : (r.set .nr34 v).nr32 = r.nr32 := rfl
@[simp] theorem Regs.set_nr34_nr33 (r : Regs) (v : Byte) : (r.set .nr34 v).nr33 = r.nr33 := rfl
@[simp] theorem Regs.set_nr34_nr34 (r : Regs) (v : Byte) : (r.set .nr34 v).nr34 = v := rfl
@[simp] theorem Regs.set_nr34_nr41 (r : Regs) (v : Byte) : (r.set .nr34 v).nr41 = r.nr41 := rfl
@[simp] theorem Regs.set_nr34_nr42 (r : Regs) (v : Byte) : (r.set .nr34 v).nr42 = r.nr42 := rfl
@[simp] theorem Regs.set_nr34_nr43 (r : Regs) (v : Byte) : (r.set .nr34 v).nr43 = r.nr43 := rfl
@[simp] theorem Regs.set_nr34_nr44 (r : Regs) (v : Byte) : (r.set .nr34 v).nr44 = r.nr44 := rfl
@[simp] theorem Regs.set_nr34_nr50 (r : Regs) (v : Byte) : (r.set .nr34 v).nr50 = r.nr50 := rfl
@[simp] theorem Regs.set_nr34_nr51 (r : Regs) (v : Byte) : (r.set .nr34 v).nr51 = r.nr51 := rfl
@[simp] theorem Regs.set_nr41_nr10 (r : Regs) (v : Byte) : (r.set .nr41 v).nr10 = r.nr10 := rfl
@[simp] theorem Regs.set_nr41_nr11 (r : Regs) (v : Byte) : (r.set .nr41 v).nr11 = r.nr11 := rfl
@[simp] theorem Regs.set_nr41_nr12 (r : Regs) (v : Byte) : (r.set .nr41 v).nr12 = r.nr12 := rfl
@[simp] theorem Regs.set_nr41_nr13 (r : Regs) (v : Byte) : (r.set .nr41 v).nr13 = r.nr13 := rfl
@[simp] theorem Regs.set_nr41_nr14 (r : Regs) (v : Byte) : (r.set .nr41 v).nr14 = r.nr14 := rfl
@[simp] theorem Regs.set_nr41_nr21 (r : Regs) (v : Byte) : (r.set .nr41 v).nr21 = r.nr21 := rfl
@[simp] theorem Regs.set_nr41_nr22 (r : Regs) (v : Byte) : (r.set .nr41 v).nr22 = r.nr22 := rfl
@[simp] theorem Regs.set_nr41_nr23 (r : Regs) (v : Byte) : (r.set .nr41 v).nr23 = r.nr23 := rfl
@[simp] theorem Regs.set_nr41_nr24 (r : Regs) (v : Byte) : (r.set .nr41 v).nr24 = r.nr24 := rfl
@[simp] theorem Regs.set_nr41_nr30 (r : Regs) (v : Byte) : (r.set .nr41 v).nr30 = r.nr30 := rfl
@[simp] theorem Regs.set_nr41_nr31 (r : Regs) (v : Byte) : (r.set .nr41 v).nr31 = r.nr31 := rfl
@[simp] theorem Regs.set_nr41_nr32 (r : Regs) (v : Byte) : (r.set .nr41 v).nr32 = r.nr32 := rfl
@[simp] theorem Regs.set_nr41_nr33 (r : Regs) (v : Byte) : (r.set .nr41 v).nr33 = r.nr33 := rfl
@[simp] theorem Regs.set_nr41_nr34 (r : Regs) (v : Byte) : (r.set .nr41 v).nr34 = r.nr34 := rfl
@[simp] theorem Regs.set_nr41_nr41 (r : Regs) (v : Byte) : (r.set .nr41 v).nr41 = v := rfl
@[simp] theorem Regs.set_nr41_nr42 (r : Regs) (v : Byte) : (r.set .nr41 v).nr42 = r.nr42 := rfl
@[simp] theorem Regs.set_nr41_nr43 (r : Regs) (v : Byte) : (r.set .nr41 v).nr43 = r.nr43 := rfl
@[simp] theorem Regs.set_nr41_nr44 (r : Regs) (v : Byte) : (r.set .nr41 v).nr44 = r.nr44 := rfl
@[simp] theorem Regs.set_nr41_nr50 (r : Regs) (v : Byte) : (r.set .nr41 v).nr50 = r.nr50 := rfl
@[simp] theorem Regs.set_nr41_nr51 (r : Regs) (v : Byte) : (r.set .nr41 v).nr51 = r.nr51 := rfl
@[simp] theorem Regs.set_nr42_nr10 (r : Regs) (v : Byte) : (r.set .nr42 v).nr10 = r.nr10 := rfl
@[simp] theorem Regs.set_nr42_nr11 (r : Regs) (v : Byte) : (r.set .nr42 v).nr11 = r.nr11 := rfl
@[simp] theorem Regs.set_nr42_nr12 (r : Regs) (v : Byte) : (r.set .nr42 v).nr12 = r.nr12 := rfl
@[simp] theorem Regs.set_nr42_nr13 (r : Regs) (v : Byte) : (r.set .nr42 v).nr13 = r.nr13 := rfl
@[simp] theorem Regs.set_nr42_nr14 (r : Regs) (v : Byte) : (r.set .nr42 v).nr14 = r.nr14 := rfl
@[simp] theorem Regs.set_nr42_nr21 (r : Regs) (v : Byte) : (r.set .nr42 v).nr21 = r.nr21 := rfl
@[simp] theorem Regs.set_nr42_nr22 (r : Regs) (v : Byte) : (r.set .nr42 v).nr22 = r.nr22 := rfl
@[simp] theorem Regs.set_nr42_nr23 (r : Regs) (v : Byte) : (r.set .nr42 v).nr23 = r.nr23 := rfl
@[simp] theorem Regs.set_nr42_nr24 (r : Regs) (v : Byte) : (r.set .nr42 v).nr24 = r.nr24 := rfl
@[simp] theorem Regs.set_nr42_nr30 (r : Regs) (v : Byte) : (r.set .nr42 v).nr30 = r.nr30 := rfl
@[simp] theorem Regs.set_nr42_nr31 (r : Regs) (v : Byte) : (r.set .nr42 v).nr31 = r.nr31 := rfl
@[simp] theorem Regs.set_nr42_nr32 (r : Regs) (v : Byte) : (r.set .nr42 v).nr32 = r.nr32 := rfl
@[simp] theorem Regs.set_nr42_nr33 (r : Regs) (v : Byte) : (r.set .nr42 v).nr33 = r.nr33 := rfl
@[simp] theorem Regs.set_nr42_nr34 (r : Regs) (v : Byte) : (r.set .nr42 v).nr34 = r.nr34 := rfl
@[simp] theorem Regs.set_nr42_nr41 (r : Regs) (v : Byte) : (r.set .nr42 v).nr41 = r.nr41 := rfl
@[simp] theorem Regs.set_nr42_nr42 (r : Regs) (v : Byte) : (r.set .nr42 v).nr42 = v := rfl
@[simp] theorem Regs.set_nr42_nr43 (r : Regs) (v : Byte) : (r.set .nr42 v).nr43 = r.nr43 := rfl
@[simp] theorem Regs.set_nr42_nr44 (r : Regs) (v : Byte) : (r.set .nr42 v).nr44 = r.nr44 := rfl
@[simp] theorem Regs.set_nr42_nr50 (r : Regs) (v : Byte) : (r.set .nr42 v).nr50 = r.nr50 := rfl
@[simp] theorem Regs.set_nr42_nr51 (r : Regs) (v : Byte) : (r.set .nr42 v).nr51 = r.nr51 := rfl
@[simp] theorem Regs.set_nr43_nr10 (r : Regs) (v : Byte) : (r.set .nr43 v).nr10 = r.nr10 := rfl
@[simp] theorem Regs.set_nr43_nr11 (r : Regs) (v : Byte) : (r.set .nr43 v).nr11 = r.nr11 := rfl
@[simp] theorem Regs.set_nr43_nr12 (r : Regs) (v : Byte) : (r.set .nr43 v).nr12 = r.nr12 := rfl
@[simp] theorem Regs.set_nr43_nr13 (r : Regs) (v : Byte) : (r.set .nr43 v).nr13 = r.nr13 := rfl
@[simp] theorem Regs.set_nr43_nr14 (r : Regs) (v : Byte) : (r.set .nr43 v).nr14 = r.nr14 := rfl
@[simp] theorem Regs.set_nr43_nr21 (r : Regs) (v : Byte) : (r.set .nr43 v).nr21 = r.nr21 := rfl
@[simp] theorem Regs.set_nr43_nr22 (r : Regs) (v : Byte) : (r.set .nr43 v).nr22 = r.nr22 := rfl
@[simp] theorem Regs.set_nr43_nr23 (r : Regs) (v : Byte) : (r.set .nr43 v).nr23 = r.nr23 := rfl
@[simp] theorem Regs.set_nr43_nr24 (r : Regs) (v : Byte) : (r.set .nr43 v).nr24 = r.nr24 := rfl
@[simp] theorem Regs.set_nr43_nr30 (r : Regs) (v : Byte) : (r.set .nr43 v).nr30 = r.nr30 := rfl
@[simp] theorem Regs.set_nr43_nr31 (r : Regs) (v : Byte) : (r.set .nr43 v).nr31 = r.nr31 := rfl
@[simp] theorem Regs.set_nr43_nr32 (r : Regs) (v : Byte) : (r.set .nr43 v).nr32 = r.nr32 := rfl
@[simp] theorem Regs.set_nr43_nr33 (r : Regs) (v : Byte) : (r.set .nr43 v).nr33 = r.nr33 := rfl
@[simp] theorem Regs.set_nr43_nr34 (r : Regs) (v : Byte) : (r.set .nr43 v).nr34 = r.nr34 := rfl
@[simp] theorem Regs.set_nr43_nr41 (r : Regs) (v : Byte) : (r.set .nr43 v).nr41 = r.nr41 := rfl
@[simp] theorem Regs.set_nr43_nr42 (r : Regs) (v : Byte) : (r.set .nr43 v).nr42 = r.nr42 := rfl
@[simp] theorem Regs.set_nr43_nr43 (r : Regs) (v : Byte) : (r.set .nr43 v).nr43 = v := rfl
@[simp] theorem Regs.set_nr43_nr44 (r : Regs) (v : Byte) : (r.set .nr43 v).nr44 = r.nr44 := rfl
@[simp] theorem Regs.set_nr43_nr50 (r : Regs) (v : Byte) : (r.set .nr43 v).nr50 = r.nr50 := rfl
@[simp] theorem Regs.set_nr43_nr51 (r : Regs) (v : Byte) : (r.set .nr43 v).nr51 = r.nr51 := rfl
@[simp] theorem Regs.set_nr44_nr10 (r : Regs) (v : Byte) : (r.set .nr44 v).nr10 = r.nr10 := rfl
@[simp] theorem Regs.set_nr44_nr11 (r : Regs) (v : Byte) : (r.set .nr44 v).nr11 = r.nr11 := rfl
@[simp] theorem Regs.set_nr44_nr12 (r : Regs) (v : Byte) : (r.set .nr44 v).nr12 = r.nr12 := rfl
@[simp] theorem Regs.set_nr44_nr13 (r : Regs) (v : Byte) : (r.set .nr44 v).nr13 = r.nr13 := rfl
@[simp] theorem Regs.set_nr44_nr14 (r : Regs) (v : Byte) : (r.set .nr44 v).nr14 = r.nr14 := rfl
@[simp] theorem Regs.set_nr44_nr21 (r : Regs) (v : Byte) : (r.set .nr44 v).nr21 = r.nr21 := rfl
@[simp] theorem Regs.set_nr44_nr22 (r : Regs) (v : Byte) : (r.set .nr44 v).nr22 = r.nr22 := rfl
@[simp] theorem Regs.set_nr44_nr23 (r : Regs) (v : Byte) : (r.set .nr44 v).nr23 = r.nr23 := rfl
@[simp] theorem Regs.set_nr44_nr24 (r : Regs) (v : Byte) : (r.set .nr44 v).nr24 = r.nr24 := rfl
@[simp] theorem Regs.set_nr44_nr30 (r : Regs) (v : Byte) : (r.set .nr44 v).nr30 = r.nr30 := rfl
@[simp] theorem Regs.set_nr44_nr31 (r : Regs) (v : Byte) : (r.set .nr44 v).nr31 = r.nr31 := rfl
@[simp] theorem Regs.set_nr44_nr32 (r : Regs) (v : Byte) : (r.set .nr44 v).nr32 = r.nr32 := rfl
@[simp] theorem Regs.set_nr44_nr33 (r : Regs) (v : Byte) : (r.set .nr44 v).nr33 = r.nr33 := rfl
@[simp] theorem Regs.set_nr44_nr34 (r : Regs) (v : Byte) : (r.set .nr44 v).nr34 = r.nr34 := rfl
@[simp] theorem Regs.set_nr44_nr41 (r : Regs) (v : Byte) : (r.set .nr44 v).nr41 = r.nr41 := rfl
@[simp] theorem Regs.set_nr44_nr42 (r : Regs) (v : Byte) : (r.set .nr44 v).nr42 = r.nr42 := rfl
@[simp] theorem Regs.set_nr44_nr43 (r : Regs) (v : Byte) : (r.set .nr44 v).nr43 = r.nr43 := rfl
@[simp] theorem Regs.set_nr44_nr44 (r : Regs) (v : Byte) : (r.set .nr44 v).nr44 = v := rfl
@[simp] theorem Regs.set_nr44_nr50 (r : Regs) (v : Byte) : (r.set .nr44 v).nr50 = r.nr50 := rfl
@[simp] theorem Regs.set_nr44_nr51 (r : Regs) (v : Byte) : (r.set .nr44 v).nr51 = r.nr51 := rfl
@[simp] theorem Regs.set_nr50_nr10 (r : Regs) (v : Byte) : (r.set .nr50 v).nr10 = r.nr10 := rfl
@[simp] theorem Regs.set_nr50_nr11 (r : Regs) (v : Byte) : (r.set .nr50 v).nr11 = r.nr11 := rfl
@[simp] theorem Regs.set_nr50_nr12 (r : Regs) (v : Byte) : (r.set .nr50 v).nr12 = r.nr12 := rfl
@[simp] theorem Regs.set_nr50_nr13 (r : Regs) (v : Byte) : (r.set .nr50 v).nr13 = r.nr13 := rfl
@[simp] theorem Regs.set_nr50_nr14 (r : Regs) (v : Byte) : (r.set .nr50 v).nr14 = r.nr14 := rfl
@[simp] theorem Regs.set_nr50_nr21 (r : Regs) (v : Byte) : (r.set .nr50 v).nr21 = r.nr21 := rfl
@[simp] theorem Regs.set_nr50_nr22 (r : Regs) (v : Byte) : (r.set .nr50 v).nr22 = r.nr22 := rfl
@[simp] theorem Regs.set_nr50_nr23 (r : Regs) (v : Byte) : (r.set .nr50 v).nr23 = r.nr23 := rfl
@[simp] theorem Regs.set_nr50_nr24 (r : Regs) (v : Byte) : (r.set .nr50 v).nr24 = r.nr24 := rfl
@[simp] theorem Regs.set_nr50_nr30 (r : Regs) (v : Byte) : (r.set .nr50 v).nr30 = r.nr30 := rfl
@[simp] theorem Regs.set_nr50_nr31 (r : Regs) (v : Byte) : (r.set .nr50 v).nr31 = r.nr31 := rfl
@[simp] theorem Regs.set_nr50_nr32 (r : Regs) (v : Byte) : (r.set .nr50 v).nr32 = r.nr32 := rfl
@[simp] theorem Regs.set_nr50_nr33 (r : Regs) (v : Byte) : (r.set .nr50 v).nr33 = r.nr33 := rfl
@[simp] theorem Regs.set_nr50_nr34 (r : Regs) (v : Byte) : (r.set .nr50 v).nr34 = r.nr34 := rfl
@[simp] theorem Regs.set_nr50_nr41 (r : Regs) (v : Byte) : (r.set .nr50 v).nr41 = r.nr41 := rfl
@[simp] theorem Regs.set_nr50_nr42 (r : Regs) (v : Byte) : (r.set .nr50 v).nr42 = r.nr42 := rfl
@[simp] theorem Regs.set_nr50_nr43 (r : Regs) (v : Byte) : (r.set .nr50 v).nr43 = r.nr43 := rfl
@[simp] theorem Regs.set_nr50_nr44 (r : Regs) (v : Byte) : (r.set .nr50 v).nr44 = r.nr44 := rfl
@[simp] theorem Regs.set_nr50_nr50 (r : Regs) (v : Byte) : (r.set .nr50 v).nr50 = v := rfl
@[simp] theorem Regs.set_nr50_nr51 (r : Regs) (v : Byte) : (r.set .nr50 v).nr51 = r.nr51 := rfl
@[simp] theorem Regs.set_nr51_nr10 (r : Regs) (v : Byte) : (r.set .nr51 v).nr10 = r.nr10 := rfl
@[simp] theorem Regs.set_nr51_nr11 (r : Regs) (v : Byte) : (r.set .nr51 v).nr11 = r.nr11 := rfl
@[simp] theorem Regs.set_nr51_nr12 (r : Regs) (v : Byte) : (r.set .nr51 v).nr12 = r.nr12 := rfl
@[simp] theorem Regs.set_nr51_nr13 (r : Regs) (v : Byte) : (r.set .nr51 v).nr13 = r.nr13 := rfl
@[simp] theorem Regs.set_nr51_nr14 (r : Regs) (v : Byte) : (r.set .nr51 v).nr14 = r.nr14 := rfl
@[simp] theorem Regs.set_nr51_nr21 (r : Regs) (v : Byte) : (r.set .nr51 v).nr21 = r.nr21 := rfl
@[simp] theorem Regs.set_nr51_nr22 (r : Regs) (v : Byte) : (r.set .nr51 v).nr22 = r.nr22 := rfl
@[simp] theorem Regs.set_nr51_nr23 (r : Regs) (v : Byte) : (r.set .nr51 v).nr23 = r.nr23 := rfl
@[simp] theorem Regs.set_nr51_nr24 (r : Regs) (v : Byte) : (r.set .nr51 v).nr24 = r.nr24 := rfl
@[simp] theorem Regs.set_nr51_nr30 (r : Regs) (v : Byte) : (r.set .nr51 v).nr30 = r.nr30 := rfl
@[simp] theorem Regs.set_nr51_nr31 (r : Regs) (v : Byte) : (r.set .nr51 v).nr31 = r.nr31 := rfl
@[simp] theorem Regs.set_nr51_nr32 (r : Regs) (v : Byte) : (r.set .nr51 v).nr32 = r.nr32 := rfl
@[simp] theorem Regs.set_nr51_nr33 (r : Regs) (v : Byte) : (r.set .nr51 v).nr33 = r.nr33 := rfl
@[simp] theorem Regs.set_nr51_nr34 (r : Regs) (v : Byte) : (r.set .nr51 v).nr34 = r.nr34 := rfl
@[simp] theorem Regs.set_nr51_nr41 (r : Regs) (v : Byte) : (r.set .nr51 v).nr41 = r.nr41 := rfl
@[simp] theorem Regs.set_nr51_nr42 (r : Regs) (v : Byte) : (r.set .nr51 v).nr42 = r.nr42 := rfl
@[simp] theorem Regs.set_nr51_nr43 (r : Regs) (v : Byte) : (r.set .nr51 v).nr43 = r.nr43 := rfl
@[simp] theorem Regs.set_nr51_nr44 (r : Regs) (v : Byte) : (r.set .nr51 v).nr44 = r.nr44 := rfl
@[simp] theorem Regs.set_nr51_nr50 (r : Regs) (v : Byte) : (r.set .nr51 v).nr50 = r.nr50 := rfl
@[simp] theorem Regs.set_nr51_nr51 (r : Regs) (v : Byte) : (r.set .nr51 v).nr51 = v := rfl

section
variable (n : Reg) (v : Byte) (a : Apu)
@[simp] theorem storeReg_regs : (storeReg n v a).regs = a.regs.set n v := rfl
@[simp] theorem storeReg_mem : (storeReg n v a).mem = a.mem := rfl
@[simp] theorem storeReg_power : (storeReg n v a).power = a.power := rfl
@[simp] theorem storeReg_ch1 : (storeReg n v a).ch1 = a.ch1 := rfl
@[simp] theorem storeReg_sweep : (storeReg n v a).sweep = a.sweep := rfl
@[simp] theorem storeReg_ch2 : (storeReg n v a).ch2 = a.ch2 := rfl
@[simp] theorem storeReg_ch3 : (storeReg n v a).ch3 = a.ch3 := rfl
@[simp] theorem storeReg_ch4 : (storeReg n v a).ch4 = a.ch4 := rfl
@[simp] theorem storeReg_fs : (storeReg n v a).fs = a.fs := rfl
end

/-! ### Registers by address (rule R104) -/

/-- Every register is found at its own address. -/
@[simp] theorem regAt_addr (n : Reg) : regAt n.addr = some n := by
  cases n <;> decide

/-- What is found at an address has that address. -/
theorem addr_of_regAt {a : Addr} {n : Reg} (h : regAt a = some n) : n.addr = a := by
  have := List.find?_some h
  simpa using this

/-- Two registers at one address are one register. -/
theorem Reg.addr_inj {n q : Reg} (h : n.addr = q.addr) : n = q := by
  have := regAt_addr n
  rw [h, regAt_addr] at this
  exact (Option.some.inj this).symm

/-! ### How an operation ends -/

/-- An operation that changes the APU always answers a next state. -/
theorem changes_eq (f : Apu → Apu) (s : State) :
    changes f s = .next { s with apu := f s.apu, response := .none } := rfl

/-- An operation that answers always answers a next state and keeps the APU. -/
theorem answers_eq (f : Apu → Response) (s : State) :
    answers f s = .next { s with response := f s.apu } := rfl

theorem gated_on (f : Apu → Apu) {a : Apu} (h : a.power = true) : gated f a = f a := by
  simp [gated, h]

theorem gated_off (f : Apu → Apu) {a : Apu} (h : a.power = false) : gated f a = a := by
  simp [gated, h]

/-- A gated write keeps a property that the write keeps. -/
theorem gated_keeps {P : Apu → Prop} {f : Apu → Apu} {a : Apu} (ha : P a) (hf : P (f a)) :
    P (gated f a) := by
  unfold gated; split <;> assumption

end Sys2Proof.Machine
end

