-- ==== Sys2Proof/Laws/Bus.lean ====
section
/-!
SUPPORT. The meanings operation by operation and the bus by address agree: what is decoded from an
address is the bus access at that address (rules R161, R200, R201).
-/

namespace Sys2Proof.Machine

theorem ne_addr_of_regAt {a : Addr} (h : regAt a = none) (n : Reg) : a ≠ n.addr := by
  rintro rfl
  rw [regAt_addr] at h
  cases h

theorem bits_eq_iff (a : Addr) (lo n : Nat) (c : BitVec n) :
    a.extractLsb' lo n = c ↔ a.toNat / 2 ^ lo % 2 ^ n = c.toNat := by
  rw [← BitVec.toNat_inj, BitVec.extractLsb'_toNat, Nat.shiftRight_eq_div_pow]

theorem inWaveRam_iff (a : Addr) :
    inWaveRam a = true ↔ 0xFF30 ≤ a.toNat ∧ a.toNat ≤ 0xFF3F := by
  unfold inWaveRam Config.waveBase Config.waveBytes
  rw [Bool.and_eq_true, decide_eq_true_eq, decide_eq_true_eq]
  omega

/-- Where an access without a register goes: the status register, the wave RAM, or nowhere. -/
theorem elsewhere (a : Addr) : a = 0xFF26#16 ∨
    (a ≠ 0xFF26#16 ∧ 0xFF30 ≤ a.toNat ∧ a.toNat ≤ 0xFF3F) ∨
    (a ≠ 0xFF26#16 ∧ ¬(0xFF30 ≤ a.toNat ∧ a.toNat ≤ 0xFF3F)) := by
  by_cases h : a = 0xFF26#16
  · exact .inl h
  · by_cases hw : 0xFF30 ≤ a.toNat ∧ a.toNat ≤ 0xFF3F
    · exact .inr (.inl ⟨h, hw⟩)
    · exact .inr (.inr ⟨h, hw⟩)

/-- An address of the wave RAM is decoded as the wave RAM row and no row before it. -/
theorem wave_bits {a : Addr} (h : 0xFF30 ≤ a.toNat ∧ a.toNat ≤ 0xFF3F) :
    a.extractLsb' 4 12 = 0xFF3#12 ∧ (a.extractLsb' 0 4).toNat = a.toNat - 0xFF30 ∧
    ∀ c : Addr, c.toNat < 0xFF30 → a ≠ c := by
  refine ⟨(bits_eq_iff _ _ _ _).mpr ?_, ?_, ?_⟩
  · have : (0xFF3#12 : BitVec 12).toNat = 0xFF3 := rfl
    omega
  · rw [BitVec.extractLsb'_toNat, Nat.shiftRight_eq_div_pow]; omega
  · rintro c hc rfl; omega

theorem not_wave_bits {a : Addr} (h : ¬(0xFF30 ≤ a.toNat ∧ a.toNat ≤ 0xFF3F)) :
    a.extractLsb' 4 12 ≠ 0xFF3#12 := by
  intro hc
  have := (bits_eq_iff _ _ _ _).mp hc
  have : (0xFF3#12 : BitVec 12).toNat = 0xFF3 := rfl
  have := a.isLt
  omega

/-! ### Writes -/

theorem busWrite_addr (n : Reg) (v : Byte) : busWrite n.addr v = gated (writeReg n v) := by
  funext a
  unfold busWrite gated
  rw [if_neg (show n.addr ≠ Config.powerAddr by cases n <;> decide), regAt_addr]
  cases a.power <;> rfl

/-- `WR a, v` as the decoder's operation is the bus write (rule R200). -/
theorem exec_decodeWr (a : Addr) (v : Byte) (s : State) :
    exec (decodeWr a v) s = changes (busWrite a v) s := by
  rcases hr : regAt a with _ | n
  · have ne := ne_addr_of_regAt hr
    have hb : ∀ x, busWrite a v x = if a = Config.powerAddr then powerWrite v x
        else if x.power = false then x
        else if inWaveRam a then storeWave (a.toNat - Config.waveBase) v x else x := by
      intro x; unfold busWrite; rw [hr]
    unfold decodeWr
    rw [if_neg (show a ≠ 0xFF10#16 from ne .nr10),
      if_neg (show a ≠ 0xFF11#16 from ne .nr11),
      if_neg (show a ≠ 0xFF12#16 from ne .nr12),
      if_neg (show a ≠ 0xFF13#16 from ne .nr13),
      if_neg (show a ≠ 0xFF14#16 from ne .nr14),
      if_neg (show a ≠ 0xFF16#16 from ne .nr21),
      if_neg (show a ≠ 0xFF17#16 from ne .nr22),
      if_neg (show a ≠ 0xFF18#16 from ne .nr23),
      if_neg (show a ≠ 0xFF19#16 from ne .nr24),
      if_neg (show a ≠ 0xFF1A#16 from ne .nr30),
      if_neg (show a ≠ 0xFF1B#16 from ne .nr31),
      if_neg (show a ≠ 0xFF1C#16 from ne .nr32),
      if_neg (show a ≠ 0xFF1D#16 from ne .nr33),
      if_neg (show a ≠ 0xFF1E#16 from ne .nr34),
      if_neg (show a ≠ 0xFF20#16 from ne .nr41),
      if_neg (show a ≠ 0xFF21#16 from ne .nr42),
      if_neg (show a ≠ 0xFF22#16 from ne .nr43),
      if_neg (show a ≠ 0xFF23#16 from ne .nr44),
      if_neg (show a ≠ 0xFF24#16 from ne .nr50),
      if_neg (show a ≠ 0xFF25#16 from ne .nr51)]
    rcases elsewhere a with rfl | ⟨h, hw⟩ | ⟨h, hw⟩
    · rfl
    · obtain ⟨e1, e2, e3⟩ := wave_bits hw
      rw [if_neg h, if_neg (e3 _ (by decide)), if_neg (e3 _ (by decide)), if_neg (e3 _ (by decide)),
        if_pos e1]
      show changes (gated (storeWave (a.extractLsb' 0 4).toNat v)) s = _
      unfold changes gated
      rw [hb, if_neg (show a ≠ Config.powerAddr from h), if_pos ((inWaveRam_iff a).mpr hw), e2]
      cases s.apu.power <;> rfl
    · have hn : busWrite a v s.apu = s.apu := by
        rw [hb, if_neg (show a ≠ Config.powerAddr from h), if_neg (mt (inWaveRam_iff a).mp hw),
          ite_self]
      unfold changes
      rw [if_neg h, if_neg (not_wave_bits hw), hn]
      repeat' split
      all_goals rfl
  · obtain rfl := addr_of_regAt hr
    rw [busWrite_addr]
    cases n <;> rfl

/-! ### Reads -/

theorem busRead_addr (mask : ReadMask) (n : Reg) (a : Apu) :
    busRead mask n.addr a = readReg mask n a.regs := by
  unfold busRead
  rw [if_neg (show n.addr ≠ Config.powerAddr by cases n <;> decide), regAt_addr]

/-- `RD a` as the decoder's operation is the bus read under the default masks (rule R201). -/
theorem exec_decodeRd (a : Addr) (s : State) :
    exec (decodeRd a) s = answers (fun x => .byte (busRead readMask a x)) s := by
  rcases hr : regAt a with _ | n
  · have ne := ne_addr_of_regAt hr
    have hb : ∀ x, busRead readMask a x = if a = Config.powerAddr then statusByte x
        else if inWaveRam a then waveByte x.mem (a.toNat - Config.waveBase) else Config.openBus := by
      intro x; unfold busRead; rw [hr]
    unfold decodeRd
    rw [if_neg (show a ≠ 0xFF10#16 from ne .nr10),
      if_neg (show a ≠ 0xFF11#16 from ne .nr11),
      if_neg (show a ≠ 0xFF12#16 from ne .nr12),
      if_neg (show a ≠ 0xFF13#16 from ne .nr13),
      if_neg (show a ≠ 0xFF14#16 from ne .nr14),
      if_neg (show a ≠ 0xFF16#16 from ne .nr21),
      if_neg (show a ≠ 0xFF17#16 from ne .nr22),
      if_neg (show a ≠ 0xFF18#16 from ne .nr23),
      if_neg (show a ≠ 0xFF19#16 from ne .nr24),
      if_neg (show a ≠ 0xFF1A#16 from ne .nr30),
      if_neg (show a ≠ 0xFF1B#16 from ne .nr31),
      if_neg (show a ≠ 0xFF1C#16 from ne .nr32),
      if_neg (show a ≠ 0xFF1D#16 from ne .nr33),
      if_neg (show a ≠ 0xFF1E#16 from ne .nr34),
      if_neg (show a ≠ 0xFF20#16 from ne .nr41),
      if_neg (show a ≠ 0xFF21#16 from ne .nr42),
      if_neg (show a ≠ 0xFF22#16 from ne .nr43),
      if_neg (show a ≠ 0xFF23#16 from ne .nr44),
      if_neg (show a ≠ 0xFF24#16 from ne .nr50),
      if_neg (show a ≠ 0xFF25#16 from ne .nr51)]
    rcases elsewhere a with rfl | ⟨h, hw⟩ | ⟨h, hw⟩
    · rfl
    · obtain ⟨e1, e2, e3⟩ := wave_bits hw
      rw [if_neg h, if_neg (e3 _ (by decide)), if_neg (e3 _ (by decide)), if_neg (e3 _ (by decide)),
        if_pos e1]
      show answers (fun x => .byte (waveByte x.mem (a.extractLsb' 0 4).toNat)) s = _
      rw [answers_eq, answers_eq, hb, if_neg (show a ≠ Config.powerAddr from h),
        if_pos ((inWaveRam_iff a).mpr hw), e2]
      rfl
    · have hn : busRead readMask a s.apu = Config.openBus := by
        rw [hb, if_neg (show a ≠ Config.powerAddr from h), if_neg (mt (inWaveRam_iff a).mp hw)]
      rw [answers_eq, hn, if_neg h, if_neg (not_wave_bits hw)]
      repeat' split
      all_goals rfl
  · obtain rfl := addr_of_regAt hr
    rw [answers_eq, busRead_addr]
    cases n <;> rfl

end Sys2Proof.Machine
end

