-- ==== Sys2Proof/Laws/Decode.lean ====
section
/-!
SUPPORT. The fields of an operation word, and when a row of the opcode table takes one.
-/

namespace Sys2Proof

/-- The bits of an operation word (rule R160). -/
theorem opWord_getLsbD (k : BitVec 2) (a : Addr) (v : Byte) (i : Nat) :
    (opWord k a v).getLsbD i =
      if i < 8 then v.getLsbD i else if i - 8 < 16 then a.getLsbD (i - 8) else k.getLsbD (i - 24) := by
  have h1 : (opWord k a v).getLsbD i = if i < 8 then v.getLsbD i else (k ++ a).getLsbD (i - 8) :=
    BitVec.getLsbD_append (x := k ++ a) (y := v)
  rw [h1, BitVec.getLsbD_append, show i - 8 - 16 = i - 24 by omega]

section
variable (k : BitVec 2) (a : Addr) (v : Byte)

@[simp] theorem opKind_opWord : opKind (opWord k a v) = k := by
  apply BitVec.eq_of_getLsbD_eq
  intro i hi
  rw [opKind, BitVec.getLsbD_extractLsb', opWord_getLsbD, if_neg (by omega), if_neg (by omega),
    show 24 + i - 24 = i by omega]
  simp [hi]

@[simp] theorem opAddr_opWord : opAddr (opWord k a v) = a := by
  apply BitVec.eq_of_getLsbD_eq
  intro i hi
  rw [opAddr, BitVec.getLsbD_extractLsb', opWord_getLsbD, if_neg (by omega), if_pos (by omega),
    show 8 + i - 8 = i by omega]
  simp [hi]

@[simp] theorem opData_opWord : opData (opWord k a v) = v := by
  apply BitVec.eq_of_getLsbD_eq
  intro i hi
  rw [opData, BitVec.getLsbD_extractLsb', opWord_getLsbD, if_pos (by omega)]
  simp [hi]

end

/-- Every word is the word of its three fields. -/
theorem opWord_fields (w : OpWord) : opWord (opKind w) (opAddr w) (opData w) = w := by
  apply BitVec.eq_of_getLsbD_eq
  intro i hi
  rw [opWord_getLsbD]
  simp only [opKind, opAddr, opData, BitVec.getLsbD_extractLsb']
  by_cases h8 : i < 8
  · simp [h8]
  · by_cases h24 : i - 8 < 16
    · simp [h8, h24, show 8 + (i - 8) = i by omega]
    · simp [h8, h24, show 24 + (i - 24) = i by omega, show i - 24 < 2 by omega]

/-- Masking a word masks its fields. -/
theorem opWord_and (k k' : BitVec 2) (a a' : Addr) (v v' : Byte) :
    opWord k a v &&& opWord k' a' v' = opWord (k &&& k') (a &&& a') (v &&& v') := by
  apply BitVec.eq_of_getLsbD_eq
  intro i _
  simp only [BitVec.getLsbD_and, opWord_getLsbD]
  split
  · rfl
  · split <;> rfl

theorem opWord_inj {k k' : BitVec 2} {a a' : Addr} {v v' : Byte} :
    opWord k a v = opWord k' a' v' ↔ k = k' ∧ a = a' ∧ v = v' := by
  constructor
  · intro h
    refine ⟨?_, ?_, ?_⟩
    · simpa using congrArg opKind h
    · simpa using congrArg opAddr h
    · simpa using congrArg opData h
  · rintro ⟨rfl, rfl, rfl⟩; rfl

/-- A row whose mask and bits leave the data byte open takes a word exactly when its kind and address
fit; every row of the table is of this form. -/
theorem takes_opWord (n : String) (k k' km : BitVec 2) (a a' am : Addr) (v : Byte) :
    (OpRow.mk n (opWord k a 0#8) (opWord km am 0#8)).takes (opWord k' a' v) =
      (k' &&& km == k && (a' &&& am == a)) := by
  rw [Bool.eq_iff_iff]
  simp [OpRow.takes, opWord_and, opWord_inj]

end Sys2Proof
end

