-- ==== Sys2Proof/Laws/Fields.lean ====
section
/-!
SUPPORT. The register fields as numbers of the stored byte, and the ranges of the derived quantities
(rules R141 to R151, R441).
-/

namespace Sys2Proof.Machine

theorem bitField_lt (b : Byte) (lo w : Nat) : bitField b lo w < 2 ^ w :=
  Nat.mod_lt _ (Nat.two_pow_pos w)

theorem envPeriod_eq (b : Byte) : envPeriod b = b.toNat % 8 := by simp [envPeriod, bitField]

theorem envVolume_eq (b : Byte) : envVolume b = b.toNat / 16 := by
  have := b.isLt
  simp only [envVolume, bitField]; omega

theorem duty_eq (b : Byte) : duty b = b.toNat / 64 := by
  have := b.isLt
  simp only [duty, bitField]; omega

theorem shortLength_eq (b : Byte) : shortLength b = 64 - b.toNat % 64 := by
  simp [shortLength, bitField, Config.shortLenMax]

theorem waveLength_eq (b : Byte) : waveLength b = 256 - b.toNat := by
  have := b.isLt
  simp only [waveLength, bitField, Config.waveLenMax]; omega

theorem dacOn_eq (b : Byte) : dacOn b = decide (8 ≤ b.toNat) := by
  have := b.isLt
  simp only [dacOn, bitField, bne, beq_eq_decide, ← decide_not]
  apply decide_eq_decide.mpr; omega

theorem bit7_eq (b : Byte) : b.getLsbD 7 = decide (128 ≤ b.toNat) := by
  have := b.isLt
  rw [BitVec.getLsbD, Nat.testBit_eq_decide_div_mod_eq]
  apply decide_eq_decide.mpr; omega

theorem volCode_eq (b : Byte) : volCode b = b.toNat / 32 % 4 := by simp [volCode, bitField]

theorem sweepPeriod_eq (r : Regs) : sweepPeriod r = r.nr10.toNat / 16 % 8 := by
  simp [sweepPeriod, bitField]

theorem sweepShift_eq (r : Regs) : sweepShift r = r.nr10.toNat % 8 := by
  simp [sweepShift, bitField]

theorem sweepReload_eq (r : Regs) :
    sweepReload r = if r.nr10.toNat / 16 % 8 = 0 then 8 else r.nr10.toNat / 16 % 8 := by
  simp [sweepReload, sweepPeriod_eq, Config.sweepZeroPeriod]

theorem periodOf_eq (lo hi : Byte) : periodOf lo hi = hi.toNat % 8 * 256 + lo.toNat := by
  simp [periodOf, bitField]

theorem periodOf_le (lo hi : Byte) : periodOf lo hi ≤ 2047 := by
  have := lo.isLt
  rw [periodOf_eq]; omega

theorem noiseRatio_eq (r : Regs) : noiseRatio r = r.nr43.toNat % 8 := by
  simp [noiseRatio, bitField]

theorem noiseShift_eq (r : Regs) : noiseShift r = r.nr43.toNat / 16 := by
  have := r.nr43.isLt
  simp only [noiseShift, bitField]; omega

theorem volLeft_eq (r : Regs) : volLeft r = r.nr50.toNat / 16 % 8 := by simp [volLeft, bitField]

theorem volRight_eq (r : Regs) : volRight r = r.nr50.toNat % 8 := by simp [volRight, bitField]

/-! ### Ranges (rules R151, R441, R445) -/

theorem sweepReload_range (r : Regs) : 1 ≤ sweepReload r ∧ sweepReload r ≤ 8 := by
  rw [sweepReload_eq]; split <;> omega

theorem baseDivisor_range (r : Regs) : 8 ≤ baseDivisor r ∧ baseDivisor r ≤ 112 := by
  simp only [baseDivisor, noiseRatio_eq]; split <;> omega

theorem shortLength_range (b : Byte) : 1 ≤ shortLength b ∧ shortLength b ≤ 64 := by
  rw [shortLength_eq]; omega

theorem waveLength_range (b : Byte) : 1 ≤ waveLength b ∧ waveLength b ≤ 256 := by
  have := b.isLt
  rw [waveLength_eq]; omega

theorem envPeriod_le (b : Byte) : envPeriod b ≤ 7 := by rw [envPeriod_eq]; omega

theorem envVolume_le (b : Byte) : envVolume b ≤ 15 := by
  have := b.isLt
  rw [envVolume_eq]; omega

theorem reload_ch1_range (r : Regs) : 4 ≤ reload .ch1 r ∧ reload .ch1 r ≤ 8192 := by
  have := periodOf_le r.nr13 r.nr14
  simp only [reload, period1, Config.periodMod, Config.pulseTimerMul]; omega

theorem reload_ch2_range (r : Regs) : 4 ≤ reload .ch2 r ∧ reload .ch2 r ≤ 8192 := by
  have := periodOf_le r.nr23 r.nr24
  simp only [reload, period2, Config.periodMod, Config.pulseTimerMul]; omega

theorem reload_ch3_range (r : Regs) : 2 ≤ reload .ch3 r ∧ reload .ch3 r ≤ 4096 := by
  have := periodOf_le r.nr33 r.nr34
  simp only [reload, period3, Config.periodMod, Config.waveTimerMul]; omega

theorem reload_ch4_eq (r : Regs) : reload .ch4 r = baseDivisor r * 2 ^ (r.nr43.toNat / 16) := by
  simp only [reload, Nat.shiftLeft_eq, noiseShift_eq]

theorem reload_ch4_range (r : Regs) : 8 ≤ reload .ch4 r ∧ reload .ch4 r ≤ 3670016 := by
  have hb := baseDivisor_range r
  have hs : 2 ^ (r.nr43.toNat / 16) ≤ 2 ^ 15 :=
    Nat.pow_le_pow_right (by omega) (by have := r.nr43.isLt; omega)
  have hp : 1 ≤ 2 ^ (r.nr43.toNat / 16) := Nat.one_le_two_pow
  rw [reload_ch4_eq]
  constructor
  · calc 8 = 8 * 1 := rfl
      _ ≤ _ := Nat.mul_le_mul hb.1 hp
  · calc _ ≤ 112 * 2 ^ 15 := Nat.mul_le_mul hb.2 hs
      _ = 3670016 := rfl

end Sys2Proof.Machine
end

