-- ==== Sys2Proof/Laws/Memory.lean ====
section
/-!
SUPPORT. The wave RAM: read after write, a write leaves every other address alone, every memory
operation keeps the canonical form, the reset memory has it.
-/

namespace Sys2Proof.Machine

/-- A write changes no address of the list. -/
theorem Memory.write_keys (m : Memory) (a : Nat) (v : Byte) :
    (Memory.write m a v).map Prod.fst = m.map Prod.fst := by
  induction m with
  | nil => rfl
  | cons c m ih =>
    obtain ⟨k, x⟩ := c
    by_cases h : k = a <;> simp_all [Memory.write]

/-- A memory operation keeps the canonical form. -/
theorem Memory.write_wf {m : Memory} (h : m.wf) (a : Nat) (v : Byte) : (Memory.write m a v).wf := by
  show (Memory.write m a v).map Prod.fst = waveAddrs
  rw [Memory.write_keys]; exact h

theorem Memory.read_write_other (m : Memory) (v : Byte) {a b : Nat} (h : b ≠ a) :
    (Memory.write m a v).read b = m.read b := by
  induction m with
  | nil => rfl
  | cons c m ih =>
    obtain ⟨k, x⟩ := c
    by_cases hk : k = a
    · subst hk; simp [Memory.write, Memory.read, Ne.symm h]
    · simp [Memory.write, Memory.read, hk, ih]

/-- A listed address reads as what was written last. -/
theorem Memory.read_write_same (m : Memory) (a : Nat) (v : Byte) (h : a ∈ m.map Prod.fst) :
    (Memory.write m a v).read a = some v := by
  induction m with
  | nil => simp at h
  | cons c m ih =>
    obtain ⟨k, x⟩ := c
    by_cases hk : k = a
    · simp [Memory.write, Memory.read, hk]
    · have : a ∈ m.map Prod.fst := by
        rcases List.mem_cons.mp (show a ∈ k :: m.map Prod.fst from h) with h' | h'
        · exact absurd h'.symm hk
        · exact h'
      simp [Memory.write, Memory.read, hk, ih this]

/-- A listed address holds a byte. -/
theorem Memory.read_listed (m : Memory) (a : Nat) (h : a ∈ m.map Prod.fst) :
    ∃ b, m.read a = some b := by
  induction m with
  | nil => simp at h
  | cons c m ih =>
    obtain ⟨k, x⟩ := c
    by_cases hk : k = a
    · exact ⟨x, by simp [Memory.read, hk]⟩
    · have : a ∈ m.map Prod.fst := by
        rcases List.mem_cons.mp (show a ∈ k :: m.map Prod.fst from h) with h' | h'
        · exact absurd h'.symm hk
        · exact h'
      simpa [Memory.read, hk] using ih this

theorem mem_waveAddrs (k : Nat) (h : k < 16) : 0xFF30 + k ∈ waveAddrs :=
  List.mem_map.mpr ⟨k, List.mem_range.mpr h, rfl⟩

/-- Every wave RAM address holds a byte in a memory of canonical form. -/
theorem Memory.read_wave {m : Memory} (h : m.wf) (k : Nat) (hk : k < 16) :
    ∃ b, m.read (0xFF30 + k) = some b :=
  m.read_listed _ (by rw [h]; exact mem_waveAddrs k hk)

/-- The reset memory has the canonical form. -/
theorem Memory.ofInit_wf (init : Nat → Byte) : (Memory.ofInit init).wf := rfl

/-- The wave RAM byte at an address that holds one. -/
theorem waveByte_eq {m : Memory} {k : Nat} {b : Byte} (h : m.read (0xFF30 + k) = some b) :
    waveByte m k = b := by
  show (m.read (0xFF30 + k)).getD _ = b
  rw [h]; rfl

section
variable (k : Nat) (v : Byte) (a : Apu)
@[simp] theorem storeWave_mem : (storeWave k v a).mem = a.mem.write (0xFF30 + k) v := rfl
@[simp] theorem storeWave_regs : (storeWave k v a).regs = a.regs := rfl
@[simp] theorem storeWave_power : (storeWave k v a).power = a.power := rfl
@[simp] theorem storeWave_ch1 : (storeWave k v a).ch1 = a.ch1 := rfl
@[simp] theorem storeWave_sweep : (storeWave k v a).sweep = a.sweep := rfl
@[simp] theorem storeWave_ch2 : (storeWave k v a).ch2 = a.ch2 := rfl
@[simp] theorem storeWave_ch3 : (storeWave k v a).ch3 = a.ch3 := rfl
@[simp] theorem storeWave_ch4 : (storeWave k v a).ch4 = a.ch4 := rfl
@[simp] theorem storeWave_fs : (storeWave k v a).fs = a.fs := rfl
end

end Sys2Proof.Machine
end

