-- ==== Sys2Proof/Laws/PerInstr.lean ====
section
/-!
SUPPORT. The family `EncodeRow`: the word of every operation lies in the row of the opcode table with
the operation's mnemonic (rule R161). One lemma per constructor of `Instr`.
-/

namespace Sys2Proof.Laws.EncodeRow

/-- The operation's word is taken by a row of the table with the operation's mnemonic. -/
def Statement (i : Instr) : Prop :=
  ∃ r ∈ opTable, r.mnemonic = i.mnemonic ∧ r.takes (encode i) = true

theorem tick : Statement (.tick) :=
  ⟨⟨"TICK", 0x0000000#26, 0x3000000#26⟩, by decide, rfl,
    (takes_opWord _ 0#2 _ 3#2 0x0000#16 _ 0x0000#16 _).trans (by decide)⟩
theorem sample : Statement (.sample) :=
  ⟨⟨"SAMPLE", 0x1000000#26, 0x3000000#26⟩, by decide, rfl,
    (takes_opWord _ 1#2 _ 3#2 0x0000#16 _ 0x0000#16 _).trans (by decide)⟩
theorem wrNr10 (v : Byte) : Statement (.wrNr10 v) :=
  ⟨⟨"WR_NR10", 0x3FF1000#26, 0x3FFFF00#26⟩, by decide, rfl,
    (takes_opWord _ 3#2 _ 3#2 0xFF10#16 _ 0xFFFF#16 _).trans (by decide)⟩
theorem wrNr11 (v : Byte) : Statement (.wrNr11 v) :=
  ⟨⟨"WR_NR11", 0x3FF1100#26, 0x3FFFF00#26⟩, by decide, rfl,
    (takes_opWord _ 3#2 _ 3#2 0xFF11#16 _ 0xFFFF#16 _).trans (by decide)⟩
theorem wrNr12 (v : Byte) : Statement (.wrNr12 v) :=
  ⟨⟨"WR_NR12", 0x3FF1200#26, 0x3FFFF00#26⟩, by decide, rfl,
    (takes_opWord _ 3#2 _ 3#2 0xFF12#16 _ 0xFFFF#16 _).trans (by decide)⟩
theorem wrNr13 (v : Byte) : Statement (.wrNr13 v) :=
  ⟨⟨"WR_NR13", 0x3FF1300#26, 0x3FFFF00#26⟩, by decide, rfl,
    (takes_opWord _ 3#2 _ 3#2 0xFF13#16 _ 0xFFFF#16 _).trans (by decide)⟩
theorem wrNr14 (v : Byte) : Statement (.wrNr14 v) :=
  ⟨⟨"WR_NR14", 0x3FF1400#26, 0x3FFFF00#26⟩, by decide, rfl,
    (takes_opWord _ 3#2 _ 3#2 0xFF14#16 _ 0xFFFF#16 _).trans (by decide)⟩
theorem wrNr21 (v : Byte) : Statement (.wrNr21 v) :=
  ⟨⟨"WR_NR21", 0x3FF1600#26, 0x3FFFF00#26⟩, by decide, rfl,
    (takes_opWord _ 3#2 _ 3#2 0xFF16#16 _ 0xFFFF#16 _).trans (by decide)⟩
theorem wrNr22 (v : Byte) : Statement (.wrNr22 v) :=
  ⟨⟨"WR_NR22", 0x3FF1700#26, 0x3FFFF00#26⟩, by decide, rfl,
    (takes_opWord _ 3#2 _ 3#2 0xFF17#16 _ 0xFFFF#16 _).trans (by decide)⟩
theorem wrNr23 (v : Byte) : Statement (.wrNr23 v) :=
  ⟨⟨"WR_NR23", 0x3FF1800#26, 0x3FFFF00#26⟩, by decide, rfl,
    (takes_opWord _ 3#2 _ 3#2 0xFF18#16 _ 0xFFFF#16 _).trans (by decide)⟩
theorem wrNr24 (v : Byte) : Statement (.wrNr24 v) :=
  ⟨⟨"WR_NR24", 0x3FF1900#26, 0x3FFFF00#26⟩, by decide, rfl,
    (takes_opWord _ 3#2 _ 3#2 0xFF19#16 _ 0xFFFF#16 _).trans (by decide)⟩
theorem wrNr30 (v : Byte) : Statement (.wrNr30 v) :=
  ⟨⟨"WR_NR30", 0x3FF1A00#26, 0x3FFFF00#26⟩, by decide, rfl,
    (takes_opWord _ 3#2 _ 3#2 0xFF1A#16 _ 0xFFFF#16 _).trans (by decide)⟩
theorem wrNr31 (v : Byte) : Statement (.wrNr31 v) :=
  ⟨⟨"WR_NR31", 0x3FF1B00#26, 0x3FFFF00#26⟩, by decide, rfl,
    (takes_opWord _ 3#2 _ 3#2 0xFF1B#16 _ 0xFFFF#16 _).trans (by decide)⟩
theorem wrNr32 (v : Byte) : Statement (.wrNr32 v) :=
  ⟨⟨"WR_NR32", 0x3FF1C00#26, 0x3FFFF00#26⟩, by decide, rfl,
    (takes_opWord _ 3#2 _ 3#2 0xFF1C#16 _ 0xFFFF#16 _).trans (by decide)⟩
theorem wrNr33 (v : Byte) : Statement (.wrNr33 v) :=
  ⟨⟨"WR_NR33", 0x3FF1D00#26, 0x3FFFF00#26⟩, by decide, rfl,
    (takes_opWord _ 3#2 _ 3#2 0xFF1D#16 _ 0xFFFF#16 _).trans (by decide)⟩
theorem wrNr34 (v : Byte) : Statement (.wrNr34 v) :=
  ⟨⟨"WR_NR34", 0x3FF1E00#26, 0x3FFFF00#26⟩, by decide, rfl,
    (takes_opWord _ 3#2 _ 3#2 0xFF1E#16 _ 0xFFFF#16 _).trans (by decide)⟩
theorem wrNr41 (v : Byte) : Statement (.wrNr41 v) :=
  ⟨⟨"WR_NR41", 0x3FF2000#26, 0x3FFFF00#26⟩, by decide, rfl,
    (takes_opWord _ 3#2 _ 3#2 0xFF20#16 _ 0xFFFF#16 _).trans (by decide)⟩
theorem wrNr42 (v : Byte) : Statement (.wrNr42 v) :=
  ⟨⟨"WR_NR42", 0x3FF2100#26, 0x3FFFF00#26⟩, by decide, rfl,
    (takes_opWord _ 3#2 _ 3#2 0xFF21#16 _ 0xFFFF#16 _).trans (by decide)⟩
theorem wrNr43 (v : Byte) : Statement (.wrNr43 v) :=
  ⟨⟨"WR_NR43", 0x3FF2200#26, 0x3FFFF00#26⟩, by decide, rfl,
    (takes_opWord _ 3#2 _ 3#2 0xFF22#16 _ 0xFFFF#16 _).trans (by decide)⟩
theorem wrNr44 (v : Byte) : Statement (.wrNr44 v) :=
  ⟨⟨"WR_NR44", 0x3FF2300#26, 0x3FFFF00#26⟩, by decide, rfl,
    (takes_opWord _ 3#2 _ 3#2 0xFF23#16 _ 0xFFFF#16 _).trans (by decide)⟩
theorem wrNr50 (v : Byte) : Statement (.wrNr50 v) :=
  ⟨⟨"WR_NR50", 0x3FF2400#26, 0x3FFFF00#26⟩, by decide, rfl,
    (takes_opWord _ 3#2 _ 3#2 0xFF24#16 _ 0xFFFF#16 _).trans (by decide)⟩
theorem wrNr51 (v : Byte) : Statement (.wrNr51 v) :=
  ⟨⟨"WR_NR51", 0x3FF2500#26, 0x3FFFF00#26⟩, by decide, rfl,
    (takes_opWord _ 3#2 _ 3#2 0xFF25#16 _ 0xFFFF#16 _).trans (by decide)⟩
theorem wrNr52 (v : Byte) : Statement (.wrNr52 v) :=
  ⟨⟨"WR_NR52", 0x3FF2600#26, 0x3FFFF00#26⟩, by decide, rfl,
    (takes_opWord _ 3#2 _ 3#2 0xFF26#16 _ 0xFFFF#16 _).trans (by decide)⟩
theorem rdNr10 : Statement (.rdNr10) :=
  ⟨⟨"RD_NR10", 0x2FF1000#26, 0x3FFFF00#26⟩, by decide, rfl,
    (takes_opWord _ 2#2 _ 3#2 0xFF10#16 _ 0xFFFF#16 _).trans (by decide)⟩
theorem rdNr11 : Statement (.rdNr11) :=
  ⟨⟨"RD_NR11", 0x2FF1100#26, 0x3FFFF00#26⟩, by decide, rfl,
    (takes_opWord _ 2#2 _ 3#2 0xFF11#16 _ 0xFFFF#16 _).trans (by decide)⟩
theorem rdNr12 : Statement (.rdNr12) :=
  ⟨⟨"RD_NR12", 0x2FF1200#26, 0x3FFFF00#26⟩, by decide, rfl,
    (takes_opWord _ 2#2 _ 3#2 0xFF12#16 _ 0xFFFF#16 _).trans (by decide)⟩
theorem rdNr13 : Statement (.rdNr13) :=
  ⟨⟨"RD_NR13", 0x2FF1300#26, 0x3FFFF00#26⟩, by decide, rfl,
    (takes_opWord _ 2#2 _ 3#2 0xFF13#16 _ 0xFFFF#16 _).trans (by decide)⟩
theorem rdNr14 : Statement (.rdNr14) :=
  ⟨⟨"RD_NR14", 0x2FF1400#26, 0x3FFFF00#26⟩, by decide, rfl,
    (takes_opWord _ 2#2 _ 3#2 0xFF14#16 _ 0xFFFF#16 _).trans (by decide)⟩
theorem rdNr21 : Statement (.rdNr21) :=
  ⟨⟨"RD_NR21", 0x2FF1600#26, 0x3FFFF00#26⟩, by decide, rfl,
    (takes_opWord _ 2#2 _ 3#2 0xFF16#16 _ 0xFFFF#16 _).trans (by decide)⟩
theorem rdNr22 : Statement (.rdNr22) :=
  ⟨⟨"RD_NR22", 0x2FF1700#26, 0x3FFFF00#26⟩, by decide, rfl,
    (takes_opWord _ 2#2 _ 3#2 0xFF17#16 _ 0xFFFF#16 _).trans (by decide)⟩
theorem rdNr23 : Statement (.rdNr23) :=
  ⟨⟨"RD_NR23", 0x2FF1800#26, 0x3FFFF00#26⟩, by decide, rfl,
    (takes_opWord _ 2#2 _ 3#2 0xFF18#16 _ 0xFFFF#16 _).trans (by decide)⟩
theorem rdNr24 : Statement (.rdNr24) :=
  ⟨⟨"RD_NR24", 0x2FF1900#26, 0x3FFFF00#26⟩, by decide, rfl,
    (takes_opWord _ 2#2 _ 3#2 0xFF19#16 _ 0xFFFF#16 _).trans (by decide)⟩
theorem rdNr30 : Statement (.rdNr30) :=
  ⟨⟨"RD_NR30", 0x2FF1A00#26, 0x3FFFF00#26⟩, by decide, rfl,
    (takes_opWord _ 2#2 _ 3#2 0xFF1A#16 _ 0xFFFF#16 _).trans (by decide)⟩
theorem rdNr31 : Statement (.rdNr31) :=
  ⟨⟨"RD_NR31", 0x2FF1B00#26, 0x3FFFF00#26⟩, by decide, rfl,
    (takes_opWord _ 2#2 _ 3#2 0xFF1B#16 _ 0xFFFF#16 _).trans (by decide)⟩
theorem rdNr32 : Statement (.rdNr32) :=
  ⟨⟨"RD_NR32", 0x2FF1C00#26, 0x3FFFF00#26⟩, by decide, rfl,
    (takes_opWord _ 2#2 _ 3#2 0xFF1C#16 _ 0xFFFF#16 _).trans (by decide)⟩
theorem rdNr33 : Statement (.rdNr33) :=
  ⟨⟨"RD_NR33", 0x2FF1D00#26, 0x3FFFF00#26⟩, by decide, rfl,
    (takes_opWord _ 2#2 _ 3#2 0xFF1D#16 _ 0xFFFF#16 _).trans (by decide)⟩
theorem rdNr34 : Statement (.rdNr34) :=
  ⟨⟨"RD_NR34", 0x2FF1E00#26, 0x3FFFF00#26⟩, by decide, rfl,
    (takes_opWord _ 2#2 _ 3#2 0xFF1E#16 _ 0xFFFF#16 _).trans (by decide)⟩
theorem rdNr41 : Statement (.rdNr41) :=
  ⟨⟨"RD_NR41", 0x2FF2000#26, 0x3FFFF00#26⟩, by decide, rfl,
    (takes_opWord _ 2#2 _ 3#2 0xFF20#16 _ 0xFFFF#16 _).trans (by decide)⟩
theorem rdNr42 : Statement (.rdNr42) :=
  ⟨⟨"RD_NR42", 0x2FF2100#26, 0x3FFFF00#26⟩, by decide, rfl,
    (takes_opWord _ 2#2 _ 3#2 0xFF21#16 _ 0xFFFF#16 _).trans (by decide)⟩
theorem rdNr43 : Statement (.rdNr43) :=
  ⟨⟨"RD_NR43", 0x2FF2200#26, 0x3FFFF00#26⟩, by decide, rfl,
    (takes_opWord _ 2#2 _ 3#2 0xFF22#16 _ 0xFFFF#16 _).trans (by decide)⟩
theorem rdNr44 : Statement (.rdNr44) :=
  ⟨⟨"RD_NR44", 0x2FF2300#26, 0x3FFFF00#26⟩, by decide, rfl,
    (takes_opWord _ 2#2 _ 3#2 0xFF23#16 _ 0xFFFF#16 _).trans (by decide)⟩
theorem rdNr50 : Statement (.rdNr50) :=
  ⟨⟨"RD_NR50", 0x2FF2400#26, 0x3FFFF00#26⟩, by decide, rfl,
    (takes_opWord _ 2#2 _ 3#2 0xFF24#16 _ 0xFFFF#16 _).trans (by decide)⟩
theorem rdNr51 : Statement (.rdNr51) :=
  ⟨⟨"RD_NR51", 0x2FF2500#26, 0x3FFFF00#26⟩, by decide, rfl,
    (takes_opWord _ 2#2 _ 3#2 0xFF25#16 _ 0xFFFF#16 _).trans (by decide)⟩
theorem rdNr52 : Statement (.rdNr52) :=
  ⟨⟨"RD_NR52", 0x2FF2600#26, 0x3FFFF00#26⟩, by decide, rfl,
    (takes_opWord _ 2#2 _ 3#2 0xFF26#16 _ 0xFFFF#16 _).trans (by decide)⟩
theorem wrWave (k : BitVec 4) (v : Byte) : Statement (.wrWave k v) :=
  ⟨⟨"WR_WAVE", 0x3FF3000#26, 0x3FFF000#26⟩, by decide, rfl,
    (takes_opWord _ 3#2 _ 3#2 0xFF30#16 _ 0xFFF0#16 _).trans (by revert k; decide)⟩
theorem rdWave (k : BitVec 4) : Statement (.rdWave k) :=
  ⟨⟨"RD_WAVE", 0x2FF3000#26, 0x3FFF000#26⟩, by decide, rfl,
    (takes_opWord _ 2#2 _ 3#2 0xFF30#16 _ 0xFFF0#16 _).trans (by revert k; decide)⟩
theorem wrHole15 (v : Byte) : Statement (.wrHole15 v) :=
  ⟨⟨"WR_HOLE15", 0x3FF1500#26, 0x3FFFF00#26⟩, by decide, rfl,
    (takes_opWord _ 3#2 _ 3#2 0xFF15#16 _ 0xFFFF#16 _).trans (by decide)⟩
theorem rdHole15 : Statement (.rdHole15) :=
  ⟨⟨"RD_HOLE15", 0x2FF1500#26, 0x3FFFF00#26⟩, by decide, rfl,
    (takes_opWord _ 2#2 _ 3#2 0xFF15#16 _ 0xFFFF#16 _).trans (by decide)⟩
theorem wrHole1F (v : Byte) : Statement (.wrHole1F v) :=
  ⟨⟨"WR_HOLE1F", 0x3FF1F00#26, 0x3FFFF00#26⟩, by decide, rfl,
    (takes_opWord _ 3#2 _ 3#2 0xFF1F#16 _ 0xFFFF#16 _).trans (by decide)⟩
theorem rdHole1F : Statement (.rdHole1F) :=
  ⟨⟨"RD_HOLE1F", 0x2FF1F00#26, 0x3FFFF00#26⟩, by decide, rfl,
    (takes_opWord _ 2#2 _ 3#2 0xFF1F#16 _ 0xFFFF#16 _).trans (by decide)⟩
theorem wrHole27 (v : Byte) : Statement (.wrHole27 v) :=
  ⟨⟨"WR_HOLE27", 0x3FF2700#26, 0x3FFFF00#26⟩, by decide, rfl,
    (takes_opWord _ 3#2 _ 3#2 0xFF27#16 _ 0xFFFF#16 _).trans (by decide)⟩
theorem rdHole27 : Statement (.rdHole27) :=
  ⟨⟨"RD_HOLE27", 0x2FF2700#26, 0x3FFFF00#26⟩, by decide, rfl,
    (takes_opWord _ 2#2 _ 3#2 0xFF27#16 _ 0xFFFF#16 _).trans (by decide)⟩
theorem wrHole28_2F (k : BitVec 3) (v : Byte) : Statement (.wrHole28_2F k v) :=
  ⟨⟨"WR_HOLE28_2F", 0x3FF2800#26, 0x3FFF800#26⟩, by decide, rfl,
    (takes_opWord _ 3#2 _ 3#2 0xFF28#16 _ 0xFFF8#16 _).trans (by revert k; decide)⟩
theorem rdHole28_2F (k : BitVec 3) : Statement (.rdHole28_2F k) :=
  ⟨⟨"RD_HOLE28_2F", 0x2FF2800#26, 0x3FFF800#26⟩, by decide, rfl,
    (takes_opWord _ 2#2 _ 3#2 0xFF28#16 _ 0xFFF8#16 _).trans (by revert k; decide)⟩
theorem wrUnmapped (a : Addr) (v : Byte) : Statement (.wrUnmapped a v) :=
  ⟨⟨"WR_UNMAPPED", 0x3000000#26, 0x3000000#26⟩, by decide, rfl,
    (takes_opWord _ 3#2 _ 3#2 0x0000#16 _ 0x0000#16 _).trans (by simp)⟩
theorem rdUnmapped (a : Addr) : Statement (.rdUnmapped a) :=
  ⟨⟨"RD_UNMAPPED", 0x2000000#26, 0x3000000#26⟩, by decide, rfl,
    (takes_opWord _ 2#2 _ 3#2 0x0000#16 _ 0x0000#16 _).trans (by simp)⟩

end Sys2Proof.Laws.EncodeRow
end

