-- ==== Sys2Proof/Laws/Procedures.lean ====
section
/-!
SUPPORT. One lemma for each shared procedure that says once everything it can do, the fields each
procedure keeps, and that each keeps the invariant of Safety.lean.
-/

namespace Sys2Proof.Machine

/-! ### Timers, lengths, envelopes -/

theorem timerDown_eq (n : Nat) : timerDown n = n - 1 := by unfold timerDown; split <;> omega

/-- Everything a pulse timer can do in one cycle. -/
theorem pulseTimer_eq (full : Nat) (p : Pulse) :
    pulseTimer full p =
      if p.ft ≤ 1 then { p with ft := full, ph := p.ph + 1 } else { p with ft := p.ft - 1 } := by
  unfold pulseTimer; rw [timerDown_eq]
  by_cases h : p.ft ≤ 1
  · rw [if_pos (by omega), if_pos h]
  · rw [if_neg (by omega), if_neg h]

/-- Everything the wave timer can do in one cycle. -/
theorem waveTimer_eq (full : Nat) (w : Wave) :
    waveTimer full w =
      if w.ft ≤ 1 then { w with ft := full, ph := w.ph + 1 } else { w with ft := w.ft - 1 } := by
  unfold waveTimer; rw [timerDown_eq]
  by_cases h : w.ft ≤ 1
  · rw [if_pos (by omega), if_pos h]
  · rw [if_neg (by omega), if_neg h]

/-- Everything the noise timer can do in one cycle. -/
theorem noiseTimer_eq (narrow : Bool) (full : Nat) (n : Noise) :
    noiseTimer narrow full n =
      if n.ft ≤ 1 then { n with ft := full, lfsr := lfsrNext narrow n.lfsr }
      else { n with ft := n.ft - 1 } := by
  unfold noiseTimer; rw [timerDown_eq]
  by_cases h : n.ft ≤ 1
  · rw [if_pos (by omega), if_pos h]
  · rw [if_neg (by omega), if_neg h]

/-- Everything a length step can do (rule R308). -/
theorem lengthDown_eq (on : Bool) (len : Nat) (en : Bool) :
    lengthDown on len en =
      (if on then len - 1 else len, if on = true ∧ len = 1 then false else en) := by
  unfold lengthDown
  cases on
  · simp
  · rcases len with _ | _ | n <;> simp

theorem volumeStep_le (up : Bool) (vol : Nat) (h : vol ≤ 15) : volumeStep up vol ≤ 15 := by
  unfold volumeStep Config.volMax; split <;> omega

/-- An envelope step keeps the timer in 0..7 and the volume in 0..15 (rule R443). -/
theorem envelopeDown_le (b : Byte) (et vol : Nat) (he : et ≤ 7) (hv : vol ≤ 15) :
    (envelopeDown b et vol).1 ≤ 7 ∧ (envelopeDown b et vol).2 ≤ 15 := by
  have hp := envPeriod_le b
  have hs := volumeStep_le (envIncreases b) vol hv
  unfold envelopeDown
  by_cases h0 : envPeriod b = 0
  · rw [if_pos h0]; exact ⟨he, hv⟩
  · rw [if_neg h0]
    have hd : (if et > 0 then et - 1 else et) ≤ 7 := by split <;> omega
    dsimp only
    by_cases h1 : (if et > 0 then et - 1 else et) = 0
    · rw [if_pos h1]; exact ⟨hp, hs⟩
    · rw [if_neg h1]; exact ⟨hd, hv⟩

theorem lengthAtTrigger_range {len full : Nat} (hl : len ≤ full) (hf : 1 ≤ full) :
    1 ≤ lengthAtTrigger len full ∧ lengthAtTrigger len full ≤ full := by
  unfold lengthAtTrigger; split <;> omega

/-! ### Ranges of the channels -/

theorem pulseTimer_inRange {full : Nat} {p : Pulse} (h : p.InRange) (hf : full ≤ 8192) :
    (pulseTimer full p).InRange := by
  rw [pulseTimer_eq]
  split
  · exact ⟨hf, h.len, h.et, h.vol, h.active⟩
  · exact ⟨by have := h.ft; dsimp only; omega, h.len, h.et, h.vol, h.active⟩

theorem waveTimer_inRange {full : Nat} {w : Wave} (h : w.InRange) (hf : full ≤ 4096) :
    (waveTimer full w).InRange := by
  rw [waveTimer_eq]
  split
  · exact ⟨hf, h.len, h.active⟩
  · exact ⟨by have := h.ft; dsimp only; omega, h.len, h.active⟩

theorem noiseTimer_inRange {narrow : Bool} {full : Nat} {n : Noise} (h : n.InRange)
    (hf : full ≤ 3670016) : (noiseTimer narrow full n).InRange := by
  rw [noiseTimer_eq]
  split
  · exact ⟨hf, h.len, h.et, h.vol, h.active⟩
  · exact ⟨by have := h.ft; dsimp only; omega, h.len, h.et, h.vol, h.active⟩

theorem pulseTrigger_inRange {b : Byte} {full : Nat} {p : Pulse} (h : p.InRange)
    (hf : full ≤ 8192) : (pulseTrigger b full p).InRange := by
  have hl := lengthAtTrigger_range (full := Config.shortLenMax) h.len (by decide)
  exact ⟨hf, hl.2, envPeriod_le b, envVolume_le b, fun _ => hl.1⟩

theorem waveTrigger_inRange {full : Nat} {w : Wave} (h : w.InRange) (hf : full ≤ 4096) :
    (waveTrigger full w).InRange := by
  have hl := lengthAtTrigger_range (full := Config.waveLenMax) h.len (by decide)
  exact ⟨hf, hl.2, fun _ => hl.1⟩

theorem noiseTrigger_inRange {b : Byte} {full : Nat} {n : Noise} (h : n.InRange)
    (hf : full ≤ 3670016) : (noiseTrigger b full n).InRange := by
  have hl := lengthAtTrigger_range (full := Config.shortLenMax) h.len (by decide)
  exact ⟨hf, hl.2, envPeriod_le b, envVolume_le b, fun _ => hl.1⟩

theorem sweepAtTrigger_inRange (r : Regs) : (sweepAtTrigger r).InRange := by
  have hs := sweepReload_range r
  exact ⟨hs.2, periodOf_le r.nr13 r.nr14, fun _ => hs.1⟩

/-! ### Sweep -/

/-- Everything a sweep step can do (rule R320). -/
theorem sweepStep_cases (a : Apu) :
    (a.sweep.swen = false ∧ sweepStep a = a) ∨
    (a.sweep.swen = true ∧ 2 ≤ a.sweep.swt ∧
      sweepStep a = a.withSweep { a.sweep with swt := a.sweep.swt - 1 }) ∨
    (a.sweep.swen = true ∧ a.sweep.swt ≤ 1 ∧ sweepPeriod a.regs = 0 ∧
      sweepStep a = a.withSweep { a.sweep with swt := sweepReload a.regs }) ∨
    (a.sweep.swen = true ∧ a.sweep.swt ≤ 1 ∧ 0 < sweepPeriod a.regs ∧
      2047 < sweepNew a.regs a.sweep.shadow ∧
      sweepStep a =
        setEnabled .ch1 false (a.withSweep { a.sweep with swt := sweepReload a.regs })) ∨
    (a.sweep.swen = true ∧ a.sweep.swt ≤ 1 ∧ 0 < sweepPeriod a.regs ∧
      sweepNew a.regs a.sweep.shadow ≤ 2047 ∧
      sweepStep a = sweepWriteBack (sweepNew a.regs a.sweep.shadow)
        (a.withSweep { a.sweep with swt := sweepReload a.regs })) := by
  unfold sweepStep
  rw [timerDown_eq]
  by_cases hs : a.sweep.swen = false
  · exact .inl ⟨hs, by rw [if_pos hs]⟩
  · rw [if_neg hs]
    rw [Bool.not_eq_false] at hs
    by_cases ht : 2 ≤ a.sweep.swt
    · exact .inr (.inl ⟨hs, ht, by rw [if_pos (by omega)]⟩)
    · rw [if_neg (by omega)]
      have ht' : a.sweep.swt ≤ 1 := by omega
      dsimp only
      by_cases hp : sweepPeriod a.regs = 0
      · exact .inr (.inr (.inl ⟨hs, ht', hp, by rw [if_pos hp]⟩))
      · rw [if_neg hp]
        unfold Config.periodMod
        by_cases hn : sweepNew a.regs a.sweep.shadow ≥ 2048
        · exact .inr (.inr (.inr (.inl ⟨hs, ht', by omega, by omega, by rw [if_pos hn]⟩)))
        · exact .inr (.inr (.inr (.inr ⟨hs, ht', by omega, by omega, by rw [if_neg hn]⟩)))

/-- What a sweep step leaves alone, and that it can only clear `en1`. -/
theorem sweepStep_frame (a : Apu) :
    (sweepStep a).mem = a.mem ∧ (sweepStep a).power = a.power ∧ (sweepStep a).ch2 = a.ch2 ∧
    (sweepStep a).ch3 = a.ch3 ∧ (sweepStep a).ch4 = a.ch4 ∧ (sweepStep a).fs = a.fs ∧
    ((sweepStep a).ch1 = a.ch1 ∨ (sweepStep a).ch1 = { a.ch1 with en := false }) ∧
    ∀ n, n ≠ .nr13 → n ≠ .nr14 → (sweepStep a).regs.get n = a.regs.get n := by
  rcases sweepStep_cases a with ⟨-, h⟩ | ⟨-, -, h⟩ | ⟨-, -, -, h⟩ | ⟨-, -, -, -, h⟩ | ⟨-, -, -, -, h⟩ <;>
    rw [h] <;> simp [setEnabled, sweepWriteBack]
  intro n h13 h14
  rw [Regs.get_set_other _ _ h14, Regs.get_set_other _ _ h13]

/-! ### The invariant, procedure by procedure -/

/-- The parts of the invariant that a procedure run by a powered-on `TICK` must keep. -/
theorem Apu.Inv.of_on {a : Apu} (hp : a.power = true) (h1 : a.ch1.InRange) (hw : a.sweep.InRange)
    (h2 : a.ch2.InRange) (h3 : a.ch3.InRange) (h4 : a.ch4.InRange) (hf : a.fs.fst ≤ 8191)
    (hm : a.mem.wf) (hd : a.ch3.en = true → waveDac a.regs.nr30 = true) : a.Inv :=
  ⟨h1, hw, h2, h3, h4, hf, hm, hd, fun h => by rw [hp] at h; cases h⟩

theorem timerSteps_inv {a : Apu} (h : a.Inv) (hp : a.power = true) : (timerSteps a).Inv := by
  refine .of_on hp ?_ h.sweep ?_ ?_ ?_ h.fst h.mem ?_
  · exact pulseTimer_inRange h.ch1 (reload_ch1_range _).2
  · exact pulseTimer_inRange h.ch2 (reload_ch2_range _).2
  · exact waveTimer_inRange h.ch3 (reload_ch3_range _).2
  · exact noiseTimer_inRange h.ch4 (reload_ch4_range _).2
  · intro he
    refine h.dac ?_
    have he' : (waveTimer (reload .ch3 a.regs) a.ch3).en = true := he
    rw [waveTimer_eq] at he'
    split at he' <;> exact he'

theorem lengthDown_range {on en : Bool} {len full : Nat} (hl : len ≤ full)
    (ha : en = true → 1 ≤ len) :
    (lengthDown on len en).1 ≤ full ∧
    ((lengthDown on len en).2 = true → 1 ≤ (lengthDown on len en).1 ∧ en = true) := by
  rw [lengthDown_eq]
  refine ⟨by dsimp only; split <;> omega, ?_⟩
  intro he
  cases en
  · simp at he
  · have := ha rfl
    dsimp only at he ⊢
    split at he
    · cases he
    · next hn =>
      refine ⟨?_, rfl⟩
      split
      · next ho => simp [ho] at hn; omega
      · omega

theorem lengthStep_inv {a : Apu} (c : Channel) (h : a.Inv) (hp : a.power = true) :
    (lengthStep c a).Inv := by
  cases c
  · have hr := lengthDown_range (on := lenEn .ch1 a.regs) h.ch1.len h.ch1.active
    exact .of_on hp ⟨h.ch1.ft, hr.1, h.ch1.et, h.ch1.vol, fun he => (hr.2 he).1⟩ h.sweep h.ch2 h.ch3
      h.ch4 h.fst h.mem h.dac
  · have hr := lengthDown_range (on := lenEn .ch2 a.regs) h.ch2.len h.ch2.active
    exact .of_on hp h.ch1 h.sweep ⟨h.ch2.ft, hr.1, h.ch2.et, h.ch2.vol, fun he => (hr.2 he).1⟩ h.ch3
      h.ch4 h.fst h.mem h.dac
  · have hr := lengthDown_range (on := lenEn .ch3 a.regs) h.ch3.len h.ch3.active
    exact .of_on hp h.ch1 h.sweep h.ch2 ⟨h.ch3.ft, hr.1, fun he => (hr.2 he).1⟩
      h.ch4 h.fst h.mem fun he => h.dac (hr.2 he).2
  · have hr := lengthDown_range (on := lenEn .ch4 a.regs) h.ch4.len h.ch4.active
    exact .of_on hp h.ch1 h.sweep h.ch2 h.ch3
      ⟨h.ch4.ft, hr.1, h.ch4.et, h.ch4.vol, fun he => (hr.2 he).1⟩ h.fst h.mem h.dac

theorem lengthStep_power (c : Channel) (a : Apu) : (lengthStep c a).power = a.power := by
  cases c <;> rfl

theorem lengthSteps_power (a : Apu) : (lengthSteps a).power = a.power := rfl

theorem lengthSteps_inv {a : Apu} (h : a.Inv) (hp : a.power = true) : (lengthSteps a).Inv :=
  lengthStep_inv _ (lengthStep_inv _ (lengthStep_inv _ (lengthStep_inv _ h hp) hp) hp) hp

theorem envelopeSteps_inv {a : Apu} (h : a.Inv) (hp : a.power = true) : (envelopeSteps a).Inv := by
  have e1 := envelopeDown_le a.regs.nr12 _ _ h.ch1.et h.ch1.vol
  have e2 := envelopeDown_le a.regs.nr22 _ _ h.ch2.et h.ch2.vol
  have e4 := envelopeDown_le a.regs.nr42 _ _ h.ch4.et h.ch4.vol
  exact .of_on hp ⟨h.ch1.ft, h.ch1.len, e1.1, e1.2, h.ch1.active⟩ h.sweep
    ⟨h.ch2.ft, h.ch2.len, e2.1, e2.2, h.ch2.active⟩ h.ch3
    ⟨h.ch4.ft, h.ch4.len, e4.1, e4.2, h.ch4.active⟩ h.fst h.mem h.dac

theorem sweepStep_inv {a : Apu} (h : a.Inv) (hp : a.power = true) : (sweepStep a).Inv := by
  have hr := sweepReload_range a.regs
  rcases sweepStep_cases a with ⟨-, e⟩ | ⟨-, h2, e⟩ | ⟨-, -, -, e⟩ | ⟨-, -, -, -, e⟩ | ⟨-, -, -, hn, e⟩ <;>
    rw [e]
  · exact h
  · exact .of_on hp h.ch1 ⟨by have := h.sweep.swt; dsimp only [Apu.withSweep_sweep]; omega,
      h.sweep.shadow, fun _ => by dsimp only [Apu.withSweep_sweep]; omega⟩ h.ch2 h.ch3 h.ch4 h.fst h.mem h.dac
  · exact .of_on hp h.ch1 ⟨hr.2, h.sweep.shadow, fun _ => hr.1⟩ h.ch2 h.ch3 h.ch4 h.fst h.mem h.dac
  · exact .of_on hp ⟨h.ch1.ft, h.ch1.len, h.ch1.et, h.ch1.vol, fun he => by cases he⟩
      ⟨hr.2, h.sweep.shadow, fun _ => hr.1⟩ h.ch2 h.ch3 h.ch4 h.fst h.mem h.dac
  · exact .of_on hp h.ch1 ⟨hr.2, hn, fun _ => hr.1⟩ h.ch2 h.ch3 h.ch4 h.fst h.mem h.dac

theorem sweepStep_power (a : Apu) : (sweepStep a).power = a.power := (sweepStep_frame a).2.1

theorem fsStep_inv {a : Apu} (k : Fin 8) (h : a.Inv) (hp : a.power = true) :
    (fsStep k a).Inv ∧ (fsStep k a).power = true := by
  have hl := lengthSteps_inv h hp
  have hlp : (lengthSteps a).power = true := hp
  have hs := sweepStep_inv hl hlp
  have hsp : (sweepStep (lengthSteps a)).power = true := by rw [sweepStep_power]; exact hlp
  have he := envelopeSteps_inv h hp
  fin_cases k
  · exact ⟨hl, hlp⟩
  · exact ⟨h, hp⟩
  · exact ⟨hs, hsp⟩
  · exact ⟨h, hp⟩
  · exact ⟨hl, hlp⟩
  · exact ⟨h, hp⟩
  · exact ⟨hs, hsp⟩
  · exact ⟨he, hp⟩

/-- The invariant does not look at the step number, and a divider within its range keeps it. -/
theorem withFs_inv {a : Apu} (f : FrameSeq) (h : a.Inv) (hf : f.fst ≤ 8191) : (a.withFs f).Inv :=
  ⟨h.ch1, h.sweep, h.ch2, h.ch3, h.ch4, hf, h.mem, h.dac, h.off⟩

theorem tick_inv {a : Apu} (h : a.Inv) : (tick a).Inv := by
  unfold tick
  split
  · next hp =>
    unfold fsTick Config.fsPeriod
    split
    · exact timerSteps_inv (withFs_inv _ (fsStep_inv _ h hp).1 (Nat.zero_le _)) (fsStep_inv _ h hp).2
    · next hf =>
      refine timerSteps_inv (withFs_inv _ h ?_) hp
      have := h.fst
      dsimp only; omega
  · exact h

/-- Storing a register byte keeps the invariant when the byte is not one the invariant looks at. -/
theorem storeReg_inv {a : Apu} (n : Reg) (v : Byte) (h : a.Inv) (hp : a.power = true)
    (hn : n ≠ .nr30) : (storeReg n v a).Inv := by
  refine .of_on hp h.ch1 h.sweep h.ch2 h.ch3 h.ch4 h.fst h.mem fun he => ?_
  have := Regs.get_set_other a.regs v (n := n) (q := .nr30) (Ne.symm hn)
  show waveDac ((a.regs.set n v).get .nr30) = true
  rw [this]
  exact h.dac he

theorem powerWrite_inv {a : Apu} (v : Byte) (h : a.Inv) : (powerWrite v a).Inv := by
  unfold powerWrite
  split
  · exact ⟨⟨h.ch1.ft, h.ch1.len, h.ch1.et, h.ch1.vol, fun he => by cases he⟩, h.sweep,
      ⟨h.ch2.ft, h.ch2.len, h.ch2.et, h.ch2.vol, fun he => by cases he⟩,
      ⟨h.ch3.ft, h.ch3.len, fun he => by cases he⟩,
      ⟨h.ch4.ft, h.ch4.len, h.ch4.et, h.ch4.vol, fun he => by cases he⟩, h.fst, h.mem,
      fun he => (by cases he), fun _ => ⟨⟨rfl, rfl, rfl, rfl⟩, rfl, rfl⟩⟩
  · split
    · exact .of_on rfl h.ch1 h.sweep h.ch2 h.ch3 h.ch4 (Nat.zero_le _) h.mem h.dac
    · exact h

/-! ### Runs -/

/-- The first step of a run that has a next state. -/
theorem run_next (n : Nat) {s t : State} (h : step s = .next t) :
    Host.Core.run Sys2Proof.core (n + 1) s = Host.Core.run Sys2Proof.core n t := by
  have h' : Sys2Proof.core.step s = .next t := h
  simp only [Host.Core.run, h']

/-- A run of cycles, its last cycle taken apart. -/
theorem advance_succ (n : Nat) (a : Apu) : advance (n + 1) a = tick (advance n a) := by
  induction n generalizing a with
  | zero => rfl
  | succ n ih => exact ih (tick a)

end Sys2Proof.Machine
end

