-- ==== Sys2Proof/Tests/Slice0.lean ====
section
/-!
SUPPORT. The model's own tests: decoding of words written out from rule R160 and the opcode table,
the refusals of `Instr.wf`, one-step tests whose expected results are those of
spec/95_test_vectors.md (each names its vector), and for each obligation with hypotheses a concrete
case that meets them. Wave RAM starts as zeros here; `WAVE_RAM_INIT` itself is open.
-/

namespace Sys2Proof.Tests

open Sys2Proof Sys2Proof.Machine Sys2Proof.Claim

/-! ### Small states -/

/-- The reset state with zeros in the wave RAM. -/
def fresh : State := { apu := Apu.resetWith (fun _ => 0#8) true, inputs := [], response := .none }

/-- The reset state with `RESET_POWER` = 0. -/
def dark : State := { apu := Apu.resetWith (fun _ => 0#8) false, inputs := [], response := .none }

/-- `fresh` with register bytes stored, no write event happening. -/
def holding (l : List (Reg × Byte)) : State :=
  { fresh with apu := l.foldl (fun a p => storeReg p.1 p.2 a) fresh.apu }

/-- A state about to take frame-sequencer step `k` at its next `TICK`. -/
def atStep (k : Fin 8) (s : State) : State :=
  { s with apu := { s.apu with fs := { fst := 8191, fss := k } } }

/-- The APU after an operation. -/
def after (i : Instr) (s : State) : Apu :=
  match exec i s with
  | .next t => t.apu
  | _ => s.apu

/-- What an operation answers. -/
def said (i : Instr) (s : State) : Response :=
  match exec i s with
  | .next t => t.response
  | _ => .none

/-- The wave table of vector V-WAVE1. -/
def ramp (k : Nat) : Byte :=
  [0x01#8, 0x23#8, 0x45#8, 0x67#8, 0x89#8, 0xAB#8, 0xCD#8, 0xEF#8,
   0xFE#8, 0xDC#8, 0xBA#8, 0x98#8, 0x76#8, 0x54#8, 0x32#8, 0x10#8].getD k 0#8

/-- Channel 3 playing the wave table of V-WAVE1 at phase `p` with volume byte `v`. -/
def ramped (v : Byte) (p : Fin 32) : State :=
  let s := holding [(.nr50, 0x00#8), (.nr51, 0x44#8), (.nr30, 0x80#8), (.nr32, v), (.nr33, 0xFE#8),
    (.nr34, 0x87#8)]
  { s with apu := { s.apu with
      mem := Memory.ofInit ramp, ch3 := { en := true, ft := 4, ph := p, len := 256 } } }

/-- The four channels of V-MIX1 as its setup leaves them. -/
def mixing (pan vol : Byte) : State :=
  let s := holding [(.nr30, 0x80#8), (.nr32, 0x20#8), (.nr34, 0x80#8), (.nr11, 0x40#8),
    (.nr12, 0xF0#8), (.nr14, 0x80#8), (.nr21, 0x40#8), (.nr22, 0x80#8), (.nr24, 0x80#8),
    (.nr42, 0xF0#8), (.nr44, 0x80#8), (.nr51, pan), (.nr50, vol)]
  { s with apu := { s.apu with
      mem := s.apu.mem.write 0xFF30 0xF0#8
      ch1 := { en := true, ft := 8192, ph := 0, len := 64, et := 0, vol := 15 }
      ch2 := { en := true, ft := 8192, ph := 0, len := 64, et := 0, vol := 8 }
      ch3 := { en := true, ft := 4096, ph := 0, len := 256 }
      ch4 := { en := true, ft := 8, lfsr := 0x7FFF#15, len := 64, et := 0, vol := 15 } } }

/-- Channel 1 as V-SW1 has it just before its first sweep step, with the given sweep unit. -/
def sweeping (w : Sweep) : State :=
  let s := holding [(.nr10, 0x11#8), (.nr11, 0x80#8), (.nr12, 0xF0#8), (.nr14, 0x84#8)]
  { s with apu := { s.apu with
      sweep := w, ch1 := { en := true, ft := 1, ph := 5, len := 64, et := 0, vol := 15 } } }

/-! ### Decoding: words written out from rule R160 and the table -/

theorem test_decode_clock : decode 0b00_0000000000000000_00000000#26 = .tick ∧
    decode 0b00_1111111111111111_11111111#26 = .tick ∧
    decode 0b01_0000000000000000_00000000#26 = .sample ∧
    decode 0b01_1010101010101010_01010101#26 = .sample := by decide

theorem test_decode_pulseA_writes : decode 0b11_1111111100010000_00010001#26 = .wrNr10 0x11#8 ∧
    decode 0x3FF1180#26 = .wrNr11 0x80#8 ∧ decode 0x3FF12A2#26 = .wrNr12 0xA2#8 ∧
    decode 0x3FF1372#26 = .wrNr13 0x72#8 ∧ decode 0x3FF1486#26 = .wrNr14 0x86#8 := by decide

theorem test_decode_pulseB_writes : decode 0b11_1111111100010110_01000000#26 = .wrNr21 0x40#8 ∧
    decode 0x3FF1780#26 = .wrNr22 0x80#8 ∧ decode 0x3FF18FF#26 = .wrNr23 0xFF#8 ∧
    decode 0x3FF1980#26 = .wrNr24 0x80#8 := by decide

theorem test_decode_wave_writes : decode 0x3FF1A80#26 = .wrNr30 0x80#8 ∧
    decode 0x3FF1BFE#26 = .wrNr31 0xFE#8 ∧ decode 0x3FF1C20#26 = .wrNr32 0x20#8 ∧
    decode 0x3FF1DFE#26 = .wrNr33 0xFE#8 ∧
    decode 0b11_1111111100011110_11000111#26 = .wrNr34 0xC7#8 := by decide

theorem test_decode_noise_writes : decode 0x3FF203D#26 = .wrNr41 0x3D#8 ∧
    decode 0x3FF2131#26 = .wrNr42 0x31#8 ∧ decode 0b11_1111111100100010_00010011#26 = .wrNr43 0x13#8 ∧
    decode 0x3FF23C0#26 = .wrNr44 0xC0#8 := by decide

theorem test_decode_control_writes : decode 0x3FF2477#26 = .wrNr50 0x77#8 ∧
    decode 0x3FF25FF#26 = .wrNr51 0xFF#8 ∧
    decode 0b11_1111111100100110_10000000#26 = .wrNr52 0x80#8 := by decide

theorem test_decode_pulse_reads : decode 0b10_1111111100010000_00000000#26 = .rdNr10 ∧
    decode 0x2FF1100#26 = .rdNr11 ∧ decode 0x2FF1200#26 = .rdNr12 ∧ decode 0x2FF1300#26 = .rdNr13 ∧
    decode 0x2FF1400#26 = .rdNr14 ∧ decode 0x2FF1600#26 = .rdNr21 ∧ decode 0x2FF1700#26 = .rdNr22 ∧
    decode 0x2FF1800#26 = .rdNr23 ∧ decode 0x2FF19FF#26 = .rdNr24 := by decide

theorem test_decode_wave_noise_control_reads : decode 0x2FF1A00#26 = .rdNr30 ∧
    decode 0x2FF1B00#26 = .rdNr31 ∧ decode 0x2FF1C00#26 = .rdNr32 ∧ decode 0x2FF1D00#26 = .rdNr33 ∧
    decode 0x2FF1E00#26 = .rdNr34 ∧ decode 0x2FF2000#26 = .rdNr41 ∧ decode 0x2FF2100#26 = .rdNr42 ∧
    decode 0x2FF2200#26 = .rdNr43 ∧ decode 0x2FF2300#26 = .rdNr44 ∧ decode 0x2FF2400#26 = .rdNr50 ∧
    decode 0x2FF2500#26 = .rdNr51 ∧
    decode 0b10_1111111100100110_00000000#26 = .rdNr52 := by decide

theorem test_decode_wave_ram : decode 0x3FF3001#26 = .wrWave 0#4 0x01#8 ∧
    decode 0b11_1111111100111111_00010000#26 = .wrWave 15#4 0x10#8 ∧
    decode 0x2FF3800#26 = .rdWave 8#4 ∧ decode 0x2FF3F00#26 = .rdWave 15#4 := by decide

theorem test_decode_holes : decode 0x3FF15AA#26 = .wrHole15 0xAA#8 ∧ decode 0x2FF1500#26 = .rdHole15 ∧
    decode 0x3FF1F80#26 = .wrHole1F 0x80#8 ∧ decode 0x2FF1F00#26 = .rdHole1F ∧
    decode 0x3FF2700#26 = .wrHole27 0x00#8 ∧ decode 0x2FF2700#26 = .rdHole27 ∧
    decode 0x3FF2812#26 = .wrHole28_2F 0#3 0x12#8 ∧
    decode 0b10_1111111100101111_00000000#26 = .rdHole28_2F 7#3 := by decide

theorem test_decode_unmapped : decode 0x3000012#26 = .wrUnmapped 0x0000#16 0x12#8 ∧
    decode 0x3FF0F00#26 = .wrUnmapped 0xFF0F#16 0x00#8 ∧
    decode 0x2FF4000#26 = .rdUnmapped 0xFF40#16 ∧
    decode 0b10_1111111111111111_00000000#26 = .rdUnmapped 0xFFFF#16 := by decide

/-- The table's numbering, and the rejection of numbers that are no 26-bit word. -/
theorem test_decode_numbers : decodeTableWord 32 0x3FF1486 = some (.wrNr14 0x86#8) ∧
    decodeTableWord 26 0x2FF2600 = some .rdNr52 ∧ decodeTableWord 32 0x4000000 = none ∧
    decodeNumber 0x4000000 = .error .widerThan26Bits := by
  refine ⟨by decide, by decide, by decide, rfl⟩

theorem test_encode_words : encode (.wrNr14 0x86#8) = 0x3FF1486#26 ∧ encode .rdNr52 = 0x2FF2600#26 ∧
    encode (.wrWave 1#4 0x23#8) = 0x3FF3123#26 ∧ encode .tick = 0x0000000#26 ∧
    encode .sample = 0x1000000#26 := by decide

/-! ### Well-formedness: the ill-formed terms each check refuses -/

theorem test_wf_refuses_wrUnmapped_inside : (Instr.wrUnmapped 0xFF10#16 0#8).wf = false ∧
    (Instr.wrUnmapped 0xFF3F#16 0#8).wf = false ∧ (Instr.wrUnmapped 0xFF15#16 0#8).wf = false := by decide

theorem test_wf_refuses_rdUnmapped_inside : (Instr.rdUnmapped 0xFF10#16).wf = false ∧
    (Instr.rdUnmapped 0xFF3F#16).wf = false ∧ (Instr.rdUnmapped 0xFF2F#16).wf = false := by decide

theorem test_wf_accepts_the_boundaries : (Instr.wrUnmapped 0xFF0F#16 0#8).wf = true ∧
    (Instr.wrUnmapped 0xFF40#16 0#8).wf = true ∧ (Instr.rdUnmapped 0x0000#16).wf = true ∧
    (Instr.rdUnmapped 0xFFFF#16).wf = true := by decide

/-! ### TICK -/

/-- V-PUL2: one `TICK` from reset. -/
theorem test_tick_from_reset :
    (after .tick fresh).fs = { fst := 1, fss := 0 } ∧ (after .tick fresh).ch1.ft = 8192 ∧
    (after .tick fresh).ch2.ph = 1 ∧ (after .tick fresh).ch3.ft = 4096 ∧
    (after .tick fresh).ch4.ft = 8 ∧ (after .tick fresh).ch4.lfsr = 0x3FFF#15 := by decide

/-- V-PUL1, t = 1592: `ft1` expires and reloads with 1592. -/
theorem test_tick_reloads_live_period :
    let s := holding [(.nr13, 0x72#8), (.nr14, 0x86#8)]
    let t := after .tick { s with apu := { s.apu with ch1 := { s.apu.ch1 with en := true, ft := 1 } } }
    t.ch1.ft = 1592 ∧ t.ch1.ph = 1 := by decide

/-- V-LEN1, t = 8192: the length step clears `en1`; V-FS2: `fst` = 0, `fss` = 1. -/
theorem test_tick_length_expires :
    let s := holding [(.nr14, 0xC0#8)]
    let t := after .tick (atStep 0 { s with apu := { s.apu with
      ch1 := { s.apu.ch1 with en := true, len := 1 } } })
    t.ch1.len = 0 ∧ t.ch1.en = false ∧ t.fs = { fst := 0, fss := 1 } := by decide

/-- V-SW1, t = 24576: the sweep writes back, and the timer reloads with the new period. -/
theorem test_tick_sweep_writes_back :
    let t := after .tick (atStep 2 (sweeping { swt := 1, shadow := 1024, swen := true }))
    t.sweep = { swt := 1, shadow := 1536, swen := true } ∧ t.regs.nr13 = 0x00#8 ∧
    t.regs.nr14 = 0x86#8 ∧ t.ch1.en = true ∧ t.ch1.ft = 2048 ∧ t.ch1.ph = 6 := by decide

/-- V-SW1, t = 57344: 1536 + 768 > 2047. -/
theorem test_tick_sweep_overflows :
    let t := after .tick (atStep 6 (sweeping { swt := 1, shadow := 1536, swen := true }))
    t.sweep.shadow = 1536 ∧ t.regs.nr14 = 0x84#8 ∧ t.ch1.en = false := by decide

/-- V-ENV4: an envelope timer at 0 with period 3 counts as expired. -/
theorem test_tick_envelope_from_zero :
    let s := holding [(.nr12, 0x53#8)]
    let t := after .tick (atStep 7 { s with apu := { s.apu with
      ch1 := { s.apu.ch1 with en := true, len := 64, vol := 5 } } })
    t.ch1.et = 3 ∧ t.ch1.vol = 4 ∧ t.fs.fss = 0 := by decide

/-- V-NOI1, V-NOI2, V-NOI3: single steps of the shift register. -/
theorem test_lfsr_steps : lfsrNext false 0x0001#15 = 0x4000#15 ∧ lfsrNext false 0x7FFF#15 = 0x3FFF#15 ∧
    lfsrNext true 0x7FFF#15 = 0x3FBF#15 ∧ lfsrNext true 0x0181#15 = 0x40C0#15 ∧
    lfsrNext true 0x0202#15 = 0x4141#15 ∧ lfsrNext true 0x4141#15 = 0x60E0#15 ∧
    lfsrNext true 0x0080#15 = 0x0000#15 := by decide

/-- V-NOI4: noise periods. -/
theorem test_noise_periods :
    [0x00#8, 0x13#8, 0x70#8, 0xE1#8, 0xF7#8].map
      (fun v => reload .ch4 (holding [(.nr43, v)]).apu.regs) = [8, 96, 1024, 262144, 3670016] := by decide

/-- V-PWR2: a `TICK` while off changes nothing. -/
theorem test_tick_while_off : after .tick dark = dark.apu := by decide

/-! ### SAMPLE -/

/-- V-MIX1. -/
theorem test_sample_mixes : said .sample (mixing 0xFF#8 0x77#8) = .frame 304 304 ∧
    said .sample (mixing 0x12#8 0x35#8) = .frame 60 48 ∧
    said .sample (mixing 0x40#8 0xF0#8) = .frame 120 0 ∧
    said .sample (mixing 0x0F#8 0x07#8) = .frame 0 304 := by decide

/-- V-WAVE2: half and quarter volume from phase 2 on, mute. -/
theorem test_sample_wave_volumes :
    (List.range 8).map (fun k => out dutyTable .ch3 (ramped 0x40#8 (Fin.ofNat 32 (2 + k))).apu)
      = [1, 1, 2, 2, 3, 3, 4, 4] ∧
    (List.range 8).map (fun k => out dutyTable .ch3 (ramped 0x60#8 (Fin.ofNat 32 (2 + k))).apu)
      = [0, 0, 1, 1, 1, 1, 2, 2] ∧
    said .sample (ramped 0x20#8 2) = .frame 2 2 ∧ said .sample (ramped 0x00#8 2) = .frame 0 0 ∧
    said .sample (ramped 0x20#8 16) = .frame 15 15 := by decide

/-- V-PUL1: the duty pattern of row 2. -/
theorem test_duty_row_2 :
    (List.range 8).map (dutyBit dutyTable (duty 0x80#8)) = [1, 0, 0, 0, 0, 1, 1, 1] := by decide

/-- The 304 and 120 of V-MIX1, divided by 480 (rule R432). -/
theorem test_normalised : normalised dutyTable 480 (mixing 0xFF#8 0x77#8).apu = (19 / 30, 19 / 30) ∧
    normalised dutyTable 480 (mixing 0x40#8 0xF0#8).apu = (1 / 4, 0) := by
  have h : samplePair dutyTable (mixing 0xFF#8 0x77#8).apu = (304, 304) := by decide
  have k : samplePair dutyTable (mixing 0x40#8 0xF0#8).apu = (120, 0) := by decide
  constructor <;> norm_num [normalised, h, k]

/-! ### Parameters -/

/-- Other values of the parameters: no read mask, and a duty table of ones. -/
def bare : Params := { Params.spec with readMask := fun _ => 0x00#8, dutyTable := fun _ _ => true }

/-- Rules R202 and R330 at `bare`: NR11 reads as stored, and channel 2 is heard at a phase whose bit in
the default table is 0. -/
theorem test_parameters_reach_the_step :
    let s := holding [(.nr11, 0x80#8), (.nr22, 0xF0#8), (.nr51, 0x02#8)]
    let s := { s with apu := { s.apu with ch2 := { s.apu.ch2 with en := true, vol := 15 } } }
    stepWith bare { s with inputs := [presentRead 0xFF11#16] } =
      .next { s with response := .byte 0x80#8 } ∧
    stepWith Params.spec { s with inputs := [presentRead 0xFF11#16] } =
      .next { s with response := .byte 0xBF#8 } ∧
    stepWith bare { s with inputs := [presentSample] } = .next { s with response := .frame 0 15 } ∧
    stepWith Params.spec { s with inputs := [presentSample] } =
      .next { s with response := .frame 0 0 } := ⟨rfl, rfl, rfl, rfl⟩

/-- Rule R9: `CLK_HZ` turns cycle counts into the 512, 256, 128 and 64 Hz of the source. -/
theorem test_rates : Params.spec.rate 8192 = 512 ∧ Params.spec.rate 16384 = 256 ∧
    Params.spec.rate 32768 = 128 ∧ Params.spec.rate 65536 = 64 := by
  have h : Params.spec.clkHz = 4194304 := rfl
  norm_num [Params.rate, h]

/-- Rules R9 and R331: a headroom of 0 and a duty table with other counts of ones are refused. -/
theorem test_params_wf : Params.spec.wf = true ∧ bare.wf = false ∧
    ({ Params.spec with headroom := 0 } : Params).wf = false := by decide

/-! ### Register writes -/

/-- V-BUS3 and V-BUS2: plain stores, read back through the masks. -/
theorem test_plain_writes :
    said .rdNr10 { fresh with apu := after (.wrNr10 0x7F#8) fresh } = .byte 0xFF#8 ∧
    (after (.wrNr13 0x72#8) fresh).regs.nr13 = 0x72#8 ∧
    (after (.wrNr23 0x72#8) fresh).regs.nr23 = 0x72#8 ∧
    said .rdNr32 { fresh with apu := after (.wrNr32 0x40#8) fresh } = .byte 0xDF#8 ∧
    (after (.wrNr33 0xFE#8) fresh).regs.nr33 = 0xFE#8 ∧
    said .rdNr43 { fresh with apu := after (.wrNr43 0x13#8) fresh } = .byte 0x13#8 ∧
    said .rdNr50 { fresh with apu := after (.wrNr50 0x88#8) fresh } = .byte 0x88#8 ∧
    said .rdNr51 { fresh with apu := after (.wrNr51 0xFF#8) fresh } = .byte 0xFF#8 := by decide

/-- V-BUS6. -/
theorem test_length_loads : (after (.wrNr11 0x3F#8) fresh).ch1.len = 1 ∧
    (after (.wrNr11 0xC0#8) fresh).ch1.len = 64 ∧ (after (.wrNr21 0x3E#8) fresh).ch2.len = 2 ∧
    (after (.wrNr31 0x00#8) fresh).ch3.len = 256 ∧ (after (.wrNr31 0xFF#8) fresh).ch3.len = 1 ∧
    (after (.wrNr41 0xFF#8) fresh).ch4.len = 1 := by decide

/-- V-BUS7 and V-WAVE3: DAC-off writes. -/
theorem test_dac_off_writes :
    let s := mixing 0xFF#8 0x77#8
    (after (.wrNr12 0x08#8) s).ch1.en = true ∧ (after (.wrNr12 0x07#8) s).ch1.en = false ∧
    (after (.wrNr12 0xF0#8) fresh).ch1.en = false ∧ (after (.wrNr22 0x07#8) s).ch2.en = false ∧
    (after (.wrNr42 0x00#8) s).ch4.en = false ∧ (after (.wrNr30 0x00#8) s).ch3.en = false ∧
    (after (.wrNr30 0x80#8) fresh).ch3.en = false := by decide

/-- V-PUL1: the trigger of channel 1. -/
theorem test_trigger1 :
    let s := holding [(.nr11, 0x80#8), (.nr12, 0xA2#8), (.nr13, 0x72#8)]
    let t := after (.wrNr14 0x86#8) s
    t.ch1 = { en := true, ft := 1592, ph := 0, len := 64, et := 2, vol := 10 } ∧
    t.sweep = { swt := 8, shadow := 1650, swen := false } := by decide

/-- V-LEN5: a trigger keeps a length counter of 1; V-BUS3: no trigger without bit 7. -/
theorem test_trigger1_keeps_length :
    let s := holding [(.nr12, 0xF0#8)]
    let s := { s with apu := { s.apu with ch1 := { s.apu.ch1 with len := 1 } } }
    (after (.wrNr14 0xC0#8) s).ch1.len = 1 ∧ (after (.wrNr14 0x46#8) s).ch1.en = false := by decide

/-- V-PUL5: the trigger of channel 2. -/
theorem test_trigger2 :
    let t := after (.wrNr24 0x80#8) (holding [(.nr21, 0x40#8), (.nr22, 0x80#8)])
    t.ch2 = { en := true, ft := 8192, ph := 0, len := 64, et := 0, vol := 8 } ∧ out dutyTable .ch2 t = 8 := by decide

/-- V-WAVE1: the trigger of channel 3. -/
theorem test_trigger3 :
    let t := after (.wrNr34 0x87#8) (holding [(.nr30, 0x80#8), (.nr33, 0xFE#8)])
    t.ch3 = { en := true, ft := 4, ph := 0, len := 256 } := by decide

/-- V-WAVE4: with the DAC off nothing but NR34 changes. -/
theorem test_trigger3_dac_off :
    let s := { fresh with apu := { fresh.apu with ch3 := { en := false, ft := 4087, ph := 1, len := 0 } } }
    (after (.wrNr34 0x80#8) s).ch3 = s.apu.ch3 ∧ (after (.wrNr34 0x80#8) s).regs.nr34 = 0x80#8 := by decide

/-- P4: the trigger of channel 4. -/
theorem test_trigger4 :
    let s := holding [(.nr42, 0x31#8), (.nr43, 0x13#8)]
    let s := { s with apu := { s.apu with ch4 := { s.apu.ch4 with len := 3, lfsr := 0#15 } } }
    (after (.wrNr44 0xC0#8) s).ch4 =
      { en := true, ft := 96, lfsr := 0x7FFF#15, len := 3, et := 1, vol := 3 } := by decide

/-- P5: power-off, and power-on. -/
theorem test_power_cycle :
    let s := mixing 0xFF#8 0x77#8
    let t : State := { s with apu := after (.wrNr52 0x00#8) s }
    said .rdNr52 t = .byte 0x70#8 ∧ said .rdNr50 t = .byte 0x00#8 ∧ said .rdNr51 t = .byte 0x00#8 ∧
    said .rdNr12 t = .byte 0xF0#8 ∧ said .sample t = .frame 0 0 ∧
    said .rdNr52 { t with apu := after (.wrNr52 0x80#8) t } = .byte 0xF0#8 ∧
    t.apu.ch1.vol = 15 := by decide

/-- P5: a redundant power-on does not restart the frame sequencer. -/
theorem test_power_on_again :
    let s := { fresh with apu := { fresh.apu with fs := { fst := 100, fss := 3 } } }
    (after (.wrNr52 0x80#8) s).fs = { fst := 100, fss := 3 } := by decide

/-- P5: writes while off are ignored. -/
theorem test_writes_while_off : after (.wrNr12 0xF0#8) dark = dark.apu ∧
    after (.wrNr14 0x80#8) dark = dark.apu ∧ after (.wrWave 0#4 0x55#8) dark = dark.apu := by decide

/-! ### Reads -/

/-- V-BUS1: the reads of reset. -/
theorem test_reads_at_reset :
    [Instr.rdNr10, .rdNr11, .rdNr12, .rdNr13, .rdNr14, .rdNr21, .rdNr22, .rdNr23, .rdNr24, .rdNr30,
     .rdNr31, .rdNr32, .rdNr33, .rdNr34, .rdNr41, .rdNr42, .rdNr43, .rdNr44, .rdNr50, .rdNr51,
     .rdNr52].map (fun i => said i fresh) =
    [0x80#8, 0x3F#8, 0x00#8, 0xFF#8, 0xBF#8, 0x3F#8, 0x00#8, 0xFF#8, 0xBF#8, 0x7F#8,
     0xFF#8, 0x9F#8, 0xFF#8, 0xBF#8, 0xFF#8, 0x00#8, 0x00#8, 0xBF#8, 0x00#8, 0x00#8,
     0xF0#8].map Response.byte := by decide

/-- V-BUS3: what the masks let through. -/
theorem test_reads_masked : said .rdNr11 (holding [(.nr11, 0x80#8)]) = .byte 0xBF#8 ∧
    said .rdNr14 (holding [(.nr14, 0x46#8)]) = .byte 0xFF#8 ∧
    said .rdNr32 (holding [(.nr32, 0x40#8)]) = .byte 0xDF#8 ∧
    said .rdNr52 (mixing 0x00#8 0x00#8) = .byte 0xFF#8 := by decide

/-! ### Wave RAM and unmapped addresses -/

/-- V-BUS5, V-WAVE5. -/
theorem test_wave_ram :
    let s : State := { fresh with apu := after (.wrWave 15#4 0xFF#8) (ramped 0x20#8 4) }
    said (.rdWave 15#4) s = .byte 0xFF#8 ∧ said (.rdWave 0#4) s = .byte 0x01#8 ∧
    out dutyTable .ch3 (after (.wrWave 2#4 0x9C#8) (ramped 0x20#8 4)) = 9 ∧
    out dutyTable .ch3 (after (.wrWave 2#4 0x9C#8) (ramped 0x20#8 5)) = 12 := by decide

/-- V-BUS4: writes change nothing. -/
theorem test_unmapped_writes : after (.wrHole15 0xAA#8) fresh = fresh.apu ∧
    after (.wrHole1F 0x80#8) fresh = fresh.apu ∧ after (.wrHole27 0x00#8) fresh = fresh.apu ∧
    after (.wrHole28_2F 7#3 0x12#8) fresh = fresh.apu ∧
    after (.wrUnmapped 0x0000#16 0x12#8) fresh = fresh.apu := by decide

/-- V-BUS4: reads return 0xFF, powered on or off. -/
theorem test_unmapped_reads : said .rdHole15 fresh = .byte 0xFF#8 ∧ said .rdHole1F dark = .byte 0xFF#8 ∧
    said .rdHole27 fresh = .byte 0xFF#8 ∧ said (.rdHole28_2F 7#3) dark = .byte 0xFF#8 ∧
    said (.rdUnmapped 0xFFFF#16) fresh = .byte 0xFF#8 := by decide

/-! ### The step -/

theorem test_step_runs_the_presented_word :
    step (fresh.withFetchWord 32 0x2FF2600) = .next { fresh with response := .byte 0xF0#8 } := rfl

theorem test_step_without_input : step fresh = .refused .noInput := rfl

/-! ### Cases that meet the hypotheses of the obligations

`fresh` and `mixing` are powered on and `dark` is off; a case about a clause at the end of its range
names the value. -/

/-- For SampleStaysInRange, whose last clause has a headroom of at least 480: `mixing` meets the
invariant with all four channels Active. -/
theorem meets_inv : (mixing 0xFF#8 0x77#8).Inv :=
  ⟨⟨by decide, by decide, by decide, by decide, by decide⟩, ⟨by decide, by decide, by decide⟩,
   ⟨by decide, by decide, by decide, by decide, by decide⟩, ⟨by decide, by decide, by decide⟩,
   ⟨by decide, by decide, by decide, by decide, by decide⟩, by decide, by decide, by decide, by decide⟩

theorem meets_SilentWhilePoweredOff : dark.Inv ∧ dark.apu.power = false :=
  ⟨⟨⟨by decide, by decide, by decide, by decide, by decide⟩, ⟨by decide, by decide, by decide⟩,
   ⟨by decide, by decide, by decide, by decide, by decide⟩, ⟨by decide, by decide, by decide⟩,
   ⟨by decide, by decide, by decide, by decide, by decide⟩, by decide, by decide, by decide, by decide⟩,
   by decide⟩

theorem meets_DecodeInvertsEncode : (Instr.wrUnmapped 0xFF0F#16 0xFF#8).wf = true ∧
    (Instr.rdUnmapped 0xFF40#16).wf = true ∧ (Instr.wrWave 15#4 0xFF#8).wf = true := by decide

theorem meets_StepRunsThePresentedOperation :
    ({ fresh with inputs := [.op 0x3FF12A2#26] } : State).inputs = [.op 0x3FF12A2#26] ∧
    encode (.wrNr12 0xA2#8) = 0x3FF12A2#26 ∧ (Instr.wrNr12 0xA2#8).wf = true ∧
    decodeTableWord 32 0x3FF12A2 = some (.wrNr12 0xA2#8) ∧
    decodeTableWord 32 0x3FFFFFF = some (.wrUnmapped 0xFFFF#16 0xFF#8) := by decide

/-- Pins for a clock edge at NR14. -/
def pins (rst we re : Bool) : Pins := { rst, we, re, addr := 0xFF14#16, wdata := 0xC0#8 }

theorem meets_ClockEdgeWritesThenTicks :
    (pins true true true).rst = true ∧
    ((pins false true true).rst = false ∧ (pins false true true).we = true ∧
      (pins false true true).re = true) ∧
    ((pins false true false).rst = false ∧ (pins false true false).we = true ∧
      (pins false true false).re = false) ∧
    ((pins false false true).rst = false ∧ (pins false false true).we = false) ∧
    ({ fresh with inputs := [.clock (pins true true true)] } : State).inputs =
      [.clock (pins true true true)] := by decide

/-- One word of each kind presented to `fresh`: for the clauses of ClockEdgeWritesThenTicks,
EveryOperationSucceeds, WriteDispatchesByAddress, ReadDispatchesByAddress and SampleMixesTheChannels
about the machine under any parameters. -/
theorem meets_presented_words :
    ({ fresh with inputs := [presentRead 0xFF26#16] } : State).inputs = [presentRead 0xFF26#16] ∧
    ({ fresh with inputs := [presentSample] } : State).inputs = [presentSample] ∧
    ({ fresh with inputs := [presentWrite 0xFFFF#16 0xFF#8] } : State).inputs =
      [presentWrite 0xFFFF#16 0xFF#8] ∧
    ({ fresh with inputs := [.op 0x3FFFFFF#26] } : State).inputs = [.op 0x3FFFFFF#26] := by decide

theorem meets_PortMachineRefinesOperations :
    ∀ p ∈ [pins false true false, pins false false true, pins false false false],
      p.rst = false ∧ (p.we && p.re) = false := by decide

theorem meets_StepKeepsTheInvariant :
    ({ mixing 0xFF#8 0x77#8 with inputs := [presentTick] } : State).Inv ∧
    step { mixing 0xFF#8 0x77#8 with inputs := [presentTick] } =
      .next { mixing 0xFF#8 0x77#8 with apu := tick (mixing 0xFF#8 0x77#8).apu } :=
  ⟨meets_inv, rfl⟩

/-- For PowerWriteChangesOnlyTheListed and RedundantPowerWriteIsIgnored. -/
theorem meets_power_writes : (0x7F#8).getLsbD 7 = false ∧ (0x80#8).getLsbD 7 = true ∧
    fresh.apu.power = true ∧ dark.apu.power = false ∧
    (0x80#8).getLsbD 7 = (0xFF#8).getLsbD 7 := by decide

theorem meets_PowerWrittenOnlyByNr52OrReset :
    (∃ t, step { fresh with inputs := [presentWrite 0xFF26#16 0x00#8] } = .next t ∧
      t.apu.power ≠ fresh.apu.power) ∧
    (∃ t, step { fresh with inputs := [.clock { pins false true false with
        addr := 0xFF26#16, wdata := 0x00#8 }] } = .next t ∧ t.apu.power ≠ fresh.apu.power) ∧
    (∃ t, step { dark with inputs := [.clock (pins true false false)] } = .next t ∧
      t.apu.power ≠ dark.apu.power) :=
  ⟨⟨_, rfl, by decide⟩, ⟨_, rfl, by decide⟩, ⟨_, rfl, by decide⟩⟩

theorem meets_PowerCycleKeepsTheRest : (0x00#8).getLsbD 7 = false ∧ (0x80#8).getLsbD 7 = true ∧
    ({ fresh with inputs := [.clock (pins true false false)] } : State).inputs =
      [.clock (pins true false false)] ∧ (pins true false false).rst = true := by decide

theorem meets_WritesWhileOffAreLost : dark.apu.power = false ∧ (0xFF25#16 : Addr) ≠ 0xFF26#16 ∧
    (0xFF27#16 : Addr) ≠ 0xFF26#16 ∧ (0x7F#8).getLsbD 7 = false := by decide

theorem meets_ReadsAndSamplesChangeNothing : opKind 0x1000000#26 = 1#2 ∧ opKind 0x2FF2600#26 = 2#2 ∧
    exec (decode 0x2FF2600#26) fresh = .next { fresh with response := .byte 0xF0#8 } ∧
    exec .sample { fresh with response := .byte 0xF0#8 } =
      .next { fresh with response := .frame 0 0 } :=
  ⟨by decide, by decide, rfl, rfl⟩

/-- Two states of one register surface: NR13, NR14 bits 2..0, timers, phases and volumes differ. -/
theorem meets_ReadsSeeOnlyTheRegisterSurface :
    let s := holding [(.nr13, 0x72#8), (.nr14, 0x46#8)]
    let r := holding [(.nr13, 0xFF#8), (.nr14, 0x41#8)]
    let u := { r with apu := { r.apu with
      ch1 := { r.apu.ch1 with ft := 77, ph := 3, vol := 15 }, fs := { fst := 5, fss := 2 } } }
    opKind 0x2FF1400#26 = 2#2 ∧
    (enabled .ch1 u.apu = enabled .ch1 s.apu ∧ enabled .ch2 u.apu = enabled .ch2 s.apu ∧
      enabled .ch3 u.apu = enabled .ch3 s.apu ∧ enabled .ch4 u.apu = enabled .ch4 s.apu) ∧
    u.apu.power = s.apu.power ∧ u.apu.mem = s.apu.mem ∧
    (∀ n ∈ allRegs, n ≠ .nr13 → n ≠ .nr14 → u.apu.regs.get n = s.apu.regs.get n) ∧
    u.apu.regs.nr14.toNat / 8 = s.apu.regs.nr14.toNat / 8 ∧
    opKind 0x0000000#26 = 0#2 ∧ opKind 0x3FF2680#26 = 3#2 := by decide

/-- For PlainRegisterWrites, LengthLoadWrites, DacOffWritesIdleTheChannel, ControlWritesWithoutTrigger,
PulseATrigger, PulseBTrigger, WaveTrigger, NoiseTrigger and ReloadsAreNeverZero: powered on, with and
without the trigger bit, channel 3 with its DAC on and off, a length counter of 0 and not 0. -/
theorem meets_register_writes : fresh.apu.power = true ∧ (mixing 0xFF#8 0x77#8).apu.power = true ∧
    (0x80#8).getLsbD 7 = true ∧ (0x7F#8).getLsbD 7 = false ∧
    (mixing 0xFF#8 0x77#8).apu.regs.nr30.getLsbD 7 = true ∧ fresh.apu.regs.nr30.getLsbD 7 = false ∧
    fresh.apu.ch1.len = 0 ∧ (mixing 0xFF#8 0x77#8).apu.ch1.len = 64 := by decide

theorem meets_WaveNoiseControlReads : (0x7F#8).getLsbD 7 = false ∧
    exec (.wrNr52 0x7F#8) fresh = .next { fresh with apu := powerOff fresh.apu, response := .none } :=
  ⟨by decide, rfl⟩

/-- For WaveRamWrite and WaveRamRead. -/
theorem meets_WaveRamWrite : fresh.apu.power = true ∧ fresh.apu.mem.wf ∧ (ramped 0x20#8 4).apu.mem.wf ∧
    (0xFF3E : Nat) ≠ 0xFF30 + (15#4).toNat := by decide

/-- For TickBetweenSequencerSteps, TickAtLengthAndIdleSteps, TickAtSweepSteps and
TickAtTheEnvelopeStep. -/
theorem meets_tick_clauses :
    (fresh.apu.power = true ∧ fresh.apu.fs.fst ≠ 8191) ∧
    AtStep [0, 4] (atStep 0 fresh).apu ∧ AtStep [0, 4] (atStep 4 fresh).apu ∧
    AtStep [1, 3, 5] (atStep 1 fresh).apu ∧ AtStep [1, 3, 5] (atStep 5 fresh).apu ∧
    AtStep [2, 6] (atStep 2 fresh).apu ∧ AtStep [2, 6] (atStep 6 fresh).apu ∧
    AtStep [7] (atStep 7 fresh).apu := by unfold AtStep; decide

/-- The clauses of the sweep step at the ends of their ranges: `swt` 2, 1 and 0, period field 0 and
1, candidates 2047 and 2048. -/
theorem meets_SweepStepCases :
    fresh.apu.sweep.swen = false ∧
    (let a := (sweeping { swt := 2, shadow := 1024, swen := true }).apu
     a.sweep.swen = true ∧ 2 ≤ a.sweep.swt) ∧
    (let s := sweeping { swt := 1, shadow := 1024, swen := true }
     let a := storeReg .nr10 0x03#8 s.apu
     a.sweep.swen = true ∧ a.sweep.swt ≤ 1 ∧ a.regs.nr10.toNat / 16 % 8 = 0) ∧
    (let s := sweeping { swt := 0, shadow := 1024, swen := true }
     let a := storeReg .nr10 0x10#8 s.apu
     a.sweep.swen = true ∧ a.sweep.swt ≤ 1 ∧ 0 < a.regs.nr10.toNat / 16 % 8 ∧
       2047 < sweepCandidate a ∧ sweepCandidate a = 2048) ∧
    (let a := (sweeping { swt := 1, shadow := 1365, swen := true }).apu
     a.sweep.swen = true ∧ a.sweep.swt ≤ 1 ∧ 0 < a.regs.nr10.toNat / 16 % 8 ∧
       sweepCandidate a ≤ 2047 ∧ sweepCandidate a = 2047) := by decide

theorem meets_SequencerCountsEveryCycle : fresh.apu.power = true ∧ fresh.apu.fs.fst ≤ 8191 ∧
    (atStep 7 fresh).apu.power = true ∧ (atStep 7 fresh).apu.fs.fst ≤ 8191 := by decide

theorem meets_AdvanceRunsAndSplits :
    ({ fresh with inputs := scriptAdvance 3 ++ scriptPowerOff } : State).inputs =
      scriptAdvance 3 ++ scriptPowerOff := rfl

theorem meets_PhasesAdvanceOncePerReload :
    let s := mixing 0xFF#8 0x77#8
    s.apu.power = true ∧ s.apu.sweep.swen = false ∧ s.apu.ch1.ft = reload .ch1 s.apu.regs ∧
    s.apu.ch2.ft = reload .ch2 s.apu.regs ∧ s.apu.ch3.ft = reload .ch3 s.apu.regs := by decide

/-- A clock edge that triggers channel `c` with length enable, at sequencer step 2, every length counter
at 1, channel 3 with its DAC on or off. -/
def racing (c : Channel) (dac : Byte) : State :=
  let s := holding [(.nr30, dac)]
  { s with
    apu := { s.apu with
      fs := { fst := 8191, fss := 2 }
      ch1 := { s.apu.ch1 with len := 1 }
      ch2 := { s.apu.ch2 with len := 1 }
      ch3 := { s.apu.ch3 with len := 1 }
      ch4 := { s.apu.ch4 with len := 1 } }
    inputs := [.clock { pins false true false with addr := controlAddr c }] }

theorem meets_SameCycleTriggerLosesToLengthExpiry :
    (∀ c ∈ [Channel.ch1, .ch2, .ch3, .ch4], ∀ dac ∈ [0x80#8, 0x00#8],
      AtStep [0, 2, 4, 6] (racing c dac).apu ∧ lenOf c (racing c dac).apu = 1) ∧
    (pins false true false).rst = false ∧ (pins false true false).we = true ∧
    (pins false true false).re = false ∧ (pins false true false).wdata.getLsbD 7 = true ∧
    (pins false true false).wdata.getLsbD 6 = true ∧
    (racing .ch3 0x80#8).apu.regs.nr30.getLsbD 7 = true ∧
    (racing .ch3 0x00#8).apu.regs.nr30.getLsbD 7 = false := by unfold AtStep; decide

/-- For LfsrStepBits, LfsrWideIsABijection, LfsrNarrowDrains and LfsrSequenceLengths, at the ends of
their ranges. -/
theorem meets_lfsr : (0 < 14 ∧ 0 ≠ 6) ∧ (13 < 14 ∧ 13 ≠ 6) ∧ (0x0001#15 : LfsrWord) ≠ 0#15 ∧
    (0x4080#15 : LfsrWord).toNat % 128 = 0 ∧ 8 ≤ 8 ∧ (0x0040#15 : LfsrWord).toNat % 128 ≠ 0 ∧
    (0 < 1 ∧ 1 < 127) ∧ (0 < 32766 ∧ 32766 < 32767) := by decide

/-- For PulseOutput, and the last clause of NoiseOutput. -/
theorem meets_PulseOutput : (mixing 0xFF#8 0x77#8).apu.ch1.vol ≤ 15 ∧
    (mixing 0xFF#8 0x77#8).apu.ch2.vol ≤ 15 ∧ (mixing 0xFF#8 0x77#8).apu.ch4.vol ≤ 15 := by decide

theorem meets_WaveOutput :
    (ramped 0x20#8 31).apu.mem.read (0xFF30 + (ramped 0x20#8 31).apu.ch3.ph.val / 2) = some 0x10#8 ∧
    (ramped 0x20#8 0).apu.mem.read (0xFF30 + (ramped 0x20#8 0).apu.ch3.ph.val / 2) = some 0x01#8 := by
  decide

theorem meets_NoiseOutput :
    fresh.apu.ch4.en = false ∧
    (let a := (mixing 0xFF#8 0x77#8).apu
     let b := { a with ch4 := { a.ch4 with lfsr := 0x4000#15 } }
     a.ch4.en = true ∧ a.ch4.lfsr.getLsbD 0 = true ∧ b.ch4.en = true ∧
       b.ch4.lfsr.getLsbD 0 = false) := by decide

/-- The ways out of Active and into it: a length counter at 1, a sweep overflow, a DAC-off write of
0x07, a DAC-off write of NR30, a power-off; a trigger. -/
theorem meets_ChannelLifeCycle :
    (let s := atStep 4 { holding [(.nr24, 0x40#8)] with apu :=
      { (holding [(.nr24, 0x40#8)]).apu with
        ch2 := { en := true, ft := 9, ph := 0, len := 1, et := 0, vol := 0 } } }
     enabled .ch2 s.apu = true ∧ enabled .ch2 (after .tick s) = false) ∧
    (let s := atStep 6 (sweeping { swt := 1, shadow := 1536, swen := true })
     enabled .ch1 s.apu = true ∧ enabled .ch1 (after .tick s) = false ∧ s.apu.sweep.swt ≤ 1 ∧
       0 < s.apu.regs.nr10.toNat / 16 % 8 ∧ 2047 < sweepCandidate s.apu) ∧
    (let s := mixing 0xFF#8 0x77#8
     enabled .ch4 s.apu = true ∧ enabled .ch4 (after (.wrNr42 0x07#8) s) = false ∧
     enabled .ch3 s.apu = true ∧ enabled .ch3 (after (.wrNr30 0x7F#8) s) = false ∧
     enabled .ch1 s.apu = true ∧ enabled .ch1 (after (.wrNr52 0x7F#8) s) = false) ∧
    (enabled .ch4 fresh.apu = false ∧ enabled .ch4 (after (.wrNr44 0x80#8) fresh) = true) := by decide

/-- Each kind of writer of a stored byte changes one. -/
theorem meets_StoredBytesHaveOnlyTheirWriters :
    (after (.wrNr43 0x13#8) fresh).regs.get .nr43 ≠ fresh.apu.regs.get .nr43 ∧
    (let s := atStep 2 (sweeping { swt := 1, shadow := 1024, swen := true })
     (after .tick s).regs.get .nr14 ≠ s.apu.regs.get .nr14) ∧
    (let s := mixing 0xFF#8 0x77#8
     (after (.wrNr52 0x00#8) s).regs.get .nr51 ≠ s.apu.regs.get .nr51) ∧
    (after (.wrWave 15#4 0x55#8) fresh).mem.read 0xFF3F ≠ fresh.apu.mem.read 0xFF3F := by decide

end Sys2Proof.Tests
end

/-!
PROOFS. The bus by address (rules R200 to R202): what the decoder makes of a write or read word, what
the machine with parameters makes of it when it is presented, and that the bus access of the model is
the one the spec's address chain describes.
-/

namespace Sys2Proof

/-! ### Words of the two access kinds -/

@[simp] theorem decode_writeWord (a : Addr) (v : Byte) : decode (opWord 3#2 a v) = decodeWr a v := by
  simp [decode]

@[simp] theorem decode_readWord (a : Addr) (v : Byte) : decode (opWord 2#2 a v) = decodeRd a := by
  simp [decode]

end Sys2Proof

namespace Sys2Proof.Machine

open Sys2Proof.Claim

theorem stepWith_presentWrite (P : Params) {s : State} {a : Addr} {v : Byte} {rest : List Input}
    (h : s.inputs = presentWrite a v :: rest) :
    stepWith P s = changes (busWrite a v) (s.withInputs rest) := by
  simp [stepWith, h, presentWrite, runWord]

theorem stepWith_presentRead (P : Params) {s : State} {a : Addr} {rest : List Input}
    (h : s.inputs = presentRead a :: rest) :
    stepWith P s = answers (fun x => .byte (busRead P.readMask a x)) (s.withInputs rest) := by
  simp [stepWith, h, presentRead, runWord]

/-! ### The model's bus and the address chain of the spec -/

/-- The chains differ only in how the last one asks for the wave RAM: as a range of numbers. -/
theorem busWrite_eq_written (a : Addr) (v : Byte) (x : Apu) : busWrite a v x = written a v x := by
  unfold busWrite written
  simp only [inWaveRam_iff]
  rfl

theorem busRead_eq_readOf (mask : ReadMask) (a : Addr) (x : Apu) :
    busRead mask a x = readOf mask a x := by
  unfold busRead readOf
  simp only [inWaveRam_iff]
  rfl

/-! ### The statements -/

/-- Settles O19: the decoded write and the presented write are both the bus write, which is the
address chain of rule R200. -/
theorem writeDispatchesByAddress : Obligations.WriteDispatchesByAddress := by
  unfold Obligations.WriteDispatchesByAddress
  constructor
  · intro s a v
    rw [decode_writeWord, exec_decodeWr, changes_eq, busWrite_eq_written]
  · intro P s a v rest h
    rw [stepWith_presentWrite P h, changes_eq, busWrite_eq_written]
    rfl

/-- Settles O20: the decoded read and the presented read both answer the bus read, which is the
address chain of rules R201 and R202, and keep the state. -/
theorem readDispatchesByAddress : Obligations.ReadDispatchesByAddress := by
  unfold Obligations.ReadDispatchesByAddress
  constructor
  · intro s a
    rw [decode_readWord, exec_decodeRd, answers_eq, busRead_eq_readOf]
  · intro P s a rest h
    rw [stepWith_presentRead P h, answers_eq, busRead_eq_readOf]
    rfl

end Sys2Proof.Machine

/-!
PROOFS. The outputs of the pulse channels (rule R330).
-/

namespace Sys2Proof.Machine

/-- The entry of the duty table that a pulse channel reads, through rule R151's division of the byte. -/
theorem dutyBit_duty_phase (t : DutyTable) (b : Byte) (ph : Fin 8) :
    dutyBit t (duty b) ph.val = (t (Fin.ofNat 4 (b.toNat / 64)) ph).toNat := by
  rw [dutyBit, duty_eq, Fin.ofNat_val_eq_self]

theorem pulseOut_eq (t : DutyTable) (b : Byte) (p : Pulse) :
    pulseOut t b p = if p.en = false then 0
      else (t (Fin.ofNat 4 (b.toNat / 64)) p.ph).toNat * p.vol := by
  unfold pulseOut
  cases p.en with
  | false => rfl
  | true => simp [dutyBit_duty_phase]

/-- A duty bit is 0 or 1, so it never raises the volume. -/
theorem pulseOut_le_vol (t : DutyTable) (b : Byte) (p : Pulse) : pulseOut t b p ≤ p.vol := by
  rw [pulseOut_eq]
  split
  · exact Nat.zero_le _
  · exact mul_le_of_le_one_left (Nat.zero_le _) (Bool.toNat_le _)

@[simp] theorem out_ch1 (t : DutyTable) (a : Apu) :
    out t .ch1 a = pulseOut t a.regs.nr11 a.ch1 := rfl

@[simp] theorem out_ch2 (t : DutyTable) (a : Apu) :
    out t .ch2 a = pulseOut t a.regs.nr21 a.ch2 := rfl

/-! ### The statement -/

/-- Settles O51: both channels are one `pulseOut`, which is the duty bit times the volume while
enabled and never exceeds the volume. -/
theorem pulseOutput : Obligations.PulseOutput := by
  unfold Obligations.PulseOutput
  intro t a
  rw [out_ch1, out_ch2]
  exact ⟨pulseOut_eq .., pulseOut_eq ..,
    (pulseOut_le_vol ..).trans, (pulseOut_le_vol ..).trans⟩

end Sys2Proof.Machine

/-!
PROOFS. The noise channel: its shift register bit by bit (rules R380, R446) and its output (rule R390).
-/

namespace Sys2Proof.Machine

/-! ### The shift register -/

/-- In wide mode the step is a right shift whose vacated top bit takes the feedback. -/
theorem getLsbD_lfsrNext_wide (l : LfsrWord) (j : Nat) :
    (lfsrNext false l).getLsbD j = if j = 14 then lfsrFeedback l else l.getLsbD (j + 1) := by
  simp only [lfsrNext, Bool.false_eq_true, if_false, BitVec.getLsbD_append,
    BitVec.getLsbD_extractLsb', BitVec.getLsbD_ofBool]
  rcases Nat.lt_trichotomy j 14 with below | rfl | above
  · simp [below, below.ne, Nat.add_comm 1 j]
  · simp
  · have beyond : l.getLsbD (j + 1) = false := BitVec.getLsbD_of_ge l (j + 1) (by omega)
    simp [above.ne', above.not_gt, beyond, Nat.sub_ne_zero_of_lt above]

/-- In narrow mode the step is the wide one with bit 6 overwritten by the feedback. -/
theorem getLsbD_lfsrNext_narrow (l : LfsrWord) (j : Nat) :
    (lfsrNext true l).getLsbD j =
      if j = 6 then lfsrFeedback l else (lfsrNext false l).getLsbD j := by
  have pieces : lfsrNext true l = (lfsrNext false l).extractLsb' 7 8
      ++ BitVec.ofBool (lfsrFeedback l) ++ (lfsrNext false l).extractLsb' 0 6 := rfl
  simp only [pieces, BitVec.getLsbD_append, BitVec.getLsbD_extractLsb', BitVec.getLsbD_ofBool]
  rcases Nat.lt_trichotomy j 6 with below | rfl | above
  · simp [below, below.ne]
  · simp
  · have back : 7 + (j - 6 - 1) = j := by omega
    have inside : j - 6 - 1 < 8 ∨ (lfsrNext false l).getLsbD j = false := by
      rcases Nat.lt_or_ge j 15 with _ | beyond
      · left; omega
      · exact .inr (BitVec.getLsbD_of_ge _ _ beyond)
    rcases inside with h | h <;>
      simp [above.ne', above.not_gt, Nat.sub_ne_zero_of_lt above, back, h]

/-! ### The output -/

@[simp] theorem out_ch4 (t : DutyTable) (a : Apu) : out t .ch4 a = noiseOut a.ch4 := rfl

theorem noiseOut_of_disabled {n : Noise} (h : n.en = false) : noiseOut n = 0 := by
  rw [noiseOut, h, Bool.false_and]
  rfl

/-- The output is inverted: bit 0 clear lets the volume through. -/
theorem noiseOut_of_bit0_clear {n : Noise} (h : n.en = true) (h0 : n.lfsr.getLsbD 0 = false) :
    noiseOut n = n.vol := by
  rw [noiseOut, h, h0]
  rfl

theorem noiseOut_of_bit0_set {n : Noise} (h0 : n.lfsr.getLsbD 0 = true) : noiseOut n = 0 := by
  rw [noiseOut, h0, Bool.not_true, Bool.and_false]
  rfl

theorem noiseOut_le_vol (n : Noise) : noiseOut n ≤ n.vol := by
  unfold noiseOut
  split
  · exact le_rfl
  · exact Nat.zero_le _

/-! ### The statements -/

/-- Settles O47: bits 14 and 6 are the two places the feedback enters; every other bit is shifted. -/
theorem lfsrStepBits : Obligations.LfsrStepBits := by
  unfold Obligations.LfsrStepBits
  intro narrow l
  cases narrow with
  | false =>
    simp only [getLsbD_lfsrNext_wide, lfsrFeedback]
    refine ⟨by simp, by simp, fun j below _ => ?_⟩
    rw [if_neg below.ne]
  | true =>
    simp only [getLsbD_lfsrNext_narrow, getLsbD_lfsrNext_wide, lfsrFeedback]
    refine ⟨by simp, by simp, fun j below not6 => ?_⟩
    rw [if_neg not6, if_neg below.ne]

/-- Settles O54: the three cases of rule R390, and the bound through the volume. -/
theorem noiseOutput : Obligations.NoiseOutput := by
  unfold Obligations.NoiseOutput
  intro d a
  rw [out_ch4]
  exact ⟨noiseOut_of_disabled, noiseOut_of_bit0_clear, fun _ => noiseOut_of_bit0_set,
    (noiseOut_le_vol a.ch4).trans⟩

end Sys2Proof.Machine

/-!
PROOFS. The encoding (rules R160, R161, R165): the address space row by row, what the decoder makes
of each row, and that decoding, encoding and the opcode table agree.
-/

namespace Sys2Proof

open Sys2Proof.Machine

/-! ### The rows of the address space -/

/-- An address in `0xFF10..0xFF3F` is that of a register, of NR52, of a single hole, of the wave RAM
or of the block of holes before it. -/
theorem inApuRange_cases {a : Addr} (h : inApuRange a = true) :
    (∃ n : Reg, a = n.addr) ∨ a = 0xFF26#16 ∨ a = 0xFF15#16 ∨ a = 0xFF1F#16 ∨ a = 0xFF27#16 ∨
    (∃ k : BitVec 4, a = 0xFF3#12 ++ k) ∨ (∃ k : BitVec 3, a = 0x1FE5#13 ++ k) := by
  have table : ∀ j : Fin 48,
      (∃ n ∈ allRegs, BitVec.ofNat 16 (0xFF10 + j) = n.addr) ∨
      BitVec.ofNat 16 (0xFF10 + j) = 0xFF26#16 ∨ BitVec.ofNat 16 (0xFF10 + j) = 0xFF15#16 ∨
      BitVec.ofNat 16 (0xFF10 + j) = 0xFF1F#16 ∨ BitVec.ofNat 16 (0xFF10 + j) = 0xFF27#16 ∨
      (∃ k : Fin 16, BitVec.ofNat 16 (0xFF10 + j) = 0xFF3#12 ++ BitVec.ofFin (w := 4) k) ∨
      ∃ k : Fin 8, BitVec.ofNat 16 (0xFF10 + j) = 0x1FE5#13 ++ BitVec.ofFin (w := 3) k := by
    decide
  simp only [inApuRange, Bool.and_eq_true, decide_eq_true_eq] at h
  have ha : a = BitVec.ofNat 16 (0xFF10 + (a.toNat - 0xFF10)) := by
    rw [show 0xFF10 + (a.toNat - 0xFF10) = a.toNat by omega, BitVec.ofNat_toNat, BitVec.setWidth_eq]
  rcases table ⟨a.toNat - 0xFF10, by omega⟩ with ⟨n, -, e⟩ | e | e | e | e | ⟨k, e⟩ | ⟨k, e⟩
  · exact .inl ⟨n, ha.trans e⟩
  · exact .inr (.inl (ha.trans e))
  · exact .inr (.inr (.inl (ha.trans e)))
  · exact .inr (.inr (.inr (.inl (ha.trans e))))
  · exact .inr (.inr (.inr (.inr (.inl (ha.trans e)))))
  · exact .inr (.inr (.inr (.inr (.inr (.inl ⟨_, ha.trans e⟩)))))
  · exact .inr (.inr (.inr (.inr (.inr (.inr ⟨_, ha.trans e⟩)))))

theorem inApuRange_iff (a : Addr) :
    inApuRange a = true ↔ 0xFF10 ≤ a.toNat ∧ a.toNat ≤ 0xFF3F := by
  simp only [inApuRange, Bool.and_eq_true, decide_eq_true_eq]

/-- The addresses that have a row of their own. -/
def singleAddrs : List Addr :=
  allRegs.map Reg.addr ++ [0xFF26#16, 0xFF15#16, 0xFF1F#16, 0xFF27#16]

/-- The fields of a wave RAM address. -/
theorem waveAddr_bits : ∀ k : BitVec 4, (0xFF3#12 ++ k : Addr) ∉ singleAddrs ∧
    (0xFF3#12 ++ k : Addr).extractLsb' 4 12 = 0xFF3#12 ∧
    (0xFF3#12 ++ k : Addr).extractLsb' 0 4 = k := by decide

/-- The fields of an address in the block of holes before the wave RAM. -/
theorem holeAddr_bits : ∀ k : BitVec 3, (0x1FE5#13 ++ k : Addr) ∉ singleAddrs ∧
    (0x1FE5#13 ++ k : Addr).extractLsb' 4 12 ≠ 0xFF3#12 ∧
    (0x1FE5#13 ++ k : Addr).extractLsb' 3 13 = 0x1FE5#13 ∧
    (0x1FE5#13 ++ k : Addr).extractLsb' 0 3 = k := by decide

/-- No row but the catch-all takes an address outside `0xFF10..0xFF3F`. -/
theorem outside_bits {a : Addr} (h : inApuRange a = false) : a ∉ singleAddrs ∧
    a.extractLsb' 4 12 ≠ 0xFF3#12 ∧ a.extractLsb' 3 13 ≠ 0x1FE5#13 := by
  have outside : ¬(0xFF10 ≤ a.toNat ∧ a.toNat ≤ 0xFF3F) := by
    rw [← inApuRange_iff, h]; exact Bool.false_ne_true
  refine ⟨?_, not_wave_bits fun inside => outside (by omega), fun hole => ?_⟩
  · have inside : ∀ c ∈ singleAddrs, inApuRange c = true := by
      simp [singleAddrs, allRegs, Reg.addr, inApuRange]
    intro single
    rw [inside a single] at h
    cases h
  · have := (bits_eq_iff a 3 13 _).mp hole
    have : (0x1FE5#13 : BitVec 13).toNat = 0x1FE5 := rfl
    have := a.isLt
    omega

/-! ### What the decoder makes of each row -/

section
variable {a : Addr} (h : a ∉ singleAddrs)
include h

theorem decodeWr_not_single (v : Byte) :
    decodeWr a v = if a.extractLsb' 4 12 = 0xFF3#12 then .wrWave (a.extractLsb' 0 4) v
      else if a.extractLsb' 3 13 = 0x1FE5#13 then .wrHole28_2F (a.extractLsb' 0 3) v
      else .wrUnmapped a v := by
  simp only [singleAddrs, allRegs, Reg.addr, List.map, List.cons_append, List.nil_append,
    List.mem_cons, not_or] at h
  simp only [decodeWr, h, if_false]

theorem decodeRd_not_single :
    decodeRd a = if a.extractLsb' 4 12 = 0xFF3#12 then .rdWave (a.extractLsb' 0 4)
      else if a.extractLsb' 3 13 = 0x1FE5#13 then .rdHole28_2F (a.extractLsb' 0 3)
      else .rdUnmapped a := by
  simp only [singleAddrs, allRegs, Reg.addr, List.map, List.cons_append, List.nil_append,
    List.mem_cons, not_or] at h
  simp only [decodeRd, h, if_false]

end

@[simp] theorem decodeWr_wave (k : BitVec 4) (v : Byte) :
    decodeWr (0xFF3#12 ++ k) v = .wrWave k v := by
  obtain ⟨ne, row, low⟩ := waveAddr_bits k
  rw [decodeWr_not_single ne, if_pos row, low]

@[simp] theorem decodeRd_wave (k : BitVec 4) : decodeRd (0xFF3#12 ++ k) = .rdWave k := by
  obtain ⟨ne, row, low⟩ := waveAddr_bits k
  rw [decodeRd_not_single ne, if_pos row, low]

@[simp] theorem decodeWr_hole28 (k : BitVec 3) (v : Byte) :
    decodeWr (0x1FE5#13 ++ k) v = .wrHole28_2F k v := by
  obtain ⟨ne, noWave, row, low⟩ := holeAddr_bits k
  rw [decodeWr_not_single ne, if_neg noWave, if_pos row, low]

@[simp] theorem decodeRd_hole28 (k : BitVec 3) :
    decodeRd (0x1FE5#13 ++ k) = .rdHole28_2F k := by
  obtain ⟨ne, noWave, row, low⟩ := holeAddr_bits k
  rw [decodeRd_not_single ne, if_neg noWave, if_pos row, low]

theorem decodeWr_outside {a : Addr} (h : inApuRange a = false) (v : Byte) :
    decodeWr a v = .wrUnmapped a v := by
  obtain ⟨ne, noWave, noHole⟩ := outside_bits h
  rw [decodeWr_not_single ne, if_neg noWave, if_neg noHole]

theorem decodeRd_outside {a : Addr} (h : inApuRange a = false) : decodeRd a = .rdUnmapped a := by
  obtain ⟨ne, noWave, noHole⟩ := outside_bits h
  rw [decodeRd_not_single ne, if_neg noWave, if_neg noHole]

@[simp] theorem decode_tickWord (a : Addr) (v : Byte) : decode (opWord 0#2 a v) = .tick := by
  simp [decode]

@[simp] theorem decode_sampleWord (a : Addr) (v : Byte) : decode (opWord 1#2 a v) = .sample := by
  simp [decode]

/-- The four kinds of word (rule R160). -/
theorem opWord_kinds (w : OpWord) :
    (∃ a v, w = opWord 0#2 a v) ∨ (∃ a v, w = opWord 1#2 a v) ∨
    (∃ a v, w = opWord 2#2 a v) ∨ (∃ a v, w = opWord 3#2 a v) := by
  have kinds : ∀ k : BitVec 2, k = 0#2 ∨ k = 1#2 ∨ k = 2#2 ∨ k = 3#2 := by decide
  rcases kinds (opKind w) with h | h | h | h
  · exact .inl ⟨_, _, by rw [← h, opWord_fields]⟩
  · exact .inr (.inl ⟨_, _, by rw [← h, opWord_fields]⟩)
  · exact .inr (.inr (.inl ⟨_, _, by rw [← h, opWord_fields]⟩))
  · exact .inr (.inr (.inr ⟨_, _, by rw [← h, opWord_fields]⟩))

/-- A decoded write is well-formed and its word is the one it was decoded from. -/
theorem encode_decodeWr (a : Addr) (v : Byte) :
    (decodeWr a v).wf = true ∧ encode (decodeWr a v) = opWord 3#2 a v := by
  rcases hr : inApuRange a
  · rw [decodeWr_outside hr]
    exact ⟨by rw [Instr.wf, hr]; rfl, rfl⟩
  · rcases inApuRange_cases hr with ⟨n, rfl⟩ | rfl | rfl | rfl | rfl | ⟨k, rfl⟩ | ⟨k, rfl⟩
    · cases n <;> exact ⟨rfl, rfl⟩
    · exact ⟨rfl, rfl⟩
    · exact ⟨rfl, rfl⟩
    · exact ⟨rfl, rfl⟩
    · exact ⟨rfl, rfl⟩
    · rw [decodeWr_wave]; exact ⟨rfl, rfl⟩
    · rw [decodeWr_hole28]; exact ⟨rfl, rfl⟩

/-- A decoded read is well-formed and its word is the one it was decoded from, the data bits 0. -/
theorem encode_decodeRd (a : Addr) :
    (decodeRd a).wf = true ∧ encode (decodeRd a) = opWord 2#2 a 0#8 := by
  rcases hr : inApuRange a
  · rw [decodeRd_outside hr]
    exact ⟨by rw [Instr.wf, hr]; rfl, rfl⟩
  · rcases inApuRange_cases hr with ⟨n, rfl⟩ | rfl | rfl | rfl | rfl | ⟨k, rfl⟩ | ⟨k, rfl⟩
    · cases n <;> exact ⟨rfl, rfl⟩
    · exact ⟨rfl, rfl⟩
    · exact ⟨rfl, rfl⟩
    · exact ⟨rfl, rfl⟩
    · exact ⟨rfl, rfl⟩
    · rw [decodeRd_wave]; exact ⟨rfl, rfl⟩
    · rw [decodeRd_hole28]; exact ⟨rfl, rfl⟩

/-! ### The opcode table -/

/-- The row's mask and bits leave the data byte open, so its taking a word is a matter of the word's
kind and address. -/
def OpRow.takesAt (r : OpRow) (k : BitVec 2) (a : Addr) : Bool :=
  k &&& opKind r.mask == opKind r.bits && (a &&& opAddr r.mask == opAddr r.bits)

theorem takes_eq_takesAt {r : OpRow} (hr : r ∈ opTable) (k : BitVec 2) (a : Addr) (v : Byte) :
    r.takes (opWord k a v) = r.takesAt k a := by
  have open_data : ∀ r ∈ opTable, opData r.mask = 0#8 ∧ opData r.bits = 0#8 := by decide
  obtain ⟨hm, hb⟩ := open_data r hr
  have fields : r = ⟨r.mnemonic, opWord (opKind r.bits) (opAddr r.bits) 0#8,
      opWord (opKind r.mask) (opAddr r.mask) 0#8⟩ := by
    rw [← hb, opWord_fields, hb, ← hm, opWord_fields]
  rw [fields, takes_opWord, ← fields]
  rfl

/-- The mask of the four rows that look at the kind alone. -/
def kindMask : OpWord := 0x3000000#26

/-- Two rows that take one word agree where both their masks look. -/
theorem takes_both {q r : OpRow} {w : OpWord} (hq : q.takes w = true) (hr : r.takes w = true) :
    q.bits &&& r.mask = r.bits &&& q.mask := by
  rw [OpRow.takes, beq_iff_eq] at hq hr
  rw [← hq, ← hr, BitVec.and_assoc, BitVec.and_assoc, BitVec.and_comm q.mask]

/-- Of two rows that can take one word the one that looks at more than the kind is the heavier. -/
theorem rivals_lighter : ∀ r ∈ opTable, r.mask ≠ kindMask → ∀ q ∈ opTable,
    q.bits &&& r.mask = r.bits &&& q.mask → q ≠ r → q.weight < r.weight := by
  decide +kernel

theorem kind_rows_disjoint : ∀ r ∈ opTable, r.mask = kindMask → ∀ q ∈ opTable, q.mask = kindMask →
    q.bits &&& r.mask = r.bits &&& q.mask → q = r := by
  decide +kernel

/-- Every other row is one of an access, at addresses of one of the blocks `0xFF1_`, `0xFF2_`,
`0xFF3_`. -/
theorem other_rows_fields : ∀ r ∈ opTable, r.mask ≠ kindMask →
    (opKind r.mask = 3#2 ∧ (opKind r.bits = 2#2 ∨ opKind r.bits = 3#2)) ∧
    (opAddr r.mask).extractLsb' 4 12 = BitVec.allOnes 12 ∧
    ((opAddr r.bits).extractLsb' 4 12 = 0xFF1#12 ∨ (opAddr r.bits).extractLsb' 4 12 = 0xFF2#12 ∨
      (opAddr r.bits).extractLsb' 4 12 = 0xFF3#12) := by
  decide +kernel

theorem inside_of_takesAt {r : OpRow} (hr : r ∈ opTable) (hm : r.mask ≠ kindMask) {k : BitVec 2}
    {a : Addr} (h : r.takesAt k a = true) : (k = 2#2 ∨ k = 3#2) ∧ inApuRange a = true := by
  obtain ⟨⟨wholeKind, access⟩, addrMask, addrBits⟩ := other_rows_fields r hr hm
  rw [OpRow.takesAt, Bool.and_eq_true, beq_iff_eq, beq_iff_eq] at h
  obtain ⟨kindFits, addrFits⟩ := h
  have kind_all : k &&& 3#2 = k := BitVec.and_allOnes
  rw [wholeKind, kind_all] at kindFits
  have block : a.extractLsb' 4 12 = (opAddr r.bits).extractLsb' 4 12 := by
    rw [← addrFits, BitVec.extractLsb'_and, addrMask, BitVec.and_allOnes]
  refine ⟨kindFits ▸ access, (inApuRange_iff a).mpr ?_⟩
  rcases addrBits with e | e | e <;> have := (bits_eq_iff a 4 12 _).mp (block.trans e) <;>
    simp only [BitVec.toNat_ofNat] at this <;> omega

/-- The mnemonics of the rows that look at the kind alone. -/
def kindNames : List String := ["TICK", "SAMPLE", "WR_UNMAPPED", "RD_UNMAPPED"]

theorem kind_row_mnemonics : ∀ r ∈ opTable, r.mask = kindMask →
    r.mnemonic ∈ kindNames := by
  decide +kernel

/-- An access inside `0xFF10..0xFF3F` is the operation of a row that looks at the address. -/
theorem mnemonic_inside {a : Addr} (h : inApuRange a = true) (v : Byte) :
    (decodeWr a v).mnemonic ∉ kindNames ∧
    (decodeRd a).mnemonic ∉ kindNames := by
  rcases inApuRange_cases h with ⟨n, rfl⟩ | rfl | rfl | rfl | rfl | ⟨k, rfl⟩ | ⟨k, rfl⟩
  · cases n <;> exact ⟨of_decide_eq_true rfl, of_decide_eq_true rfl⟩
  · exact ⟨of_decide_eq_true rfl, of_decide_eq_true rfl⟩
  · exact ⟨of_decide_eq_true rfl, of_decide_eq_true rfl⟩
  · exact ⟨of_decide_eq_true rfl, of_decide_eq_true rfl⟩
  · exact ⟨of_decide_eq_true rfl, of_decide_eq_true rfl⟩
  · rw [decodeWr_wave, decodeRd_wave]; exact ⟨of_decide_eq_true rfl, of_decide_eq_true rfl⟩
  · rw [decodeWr_hole28, decodeRd_hole28]; exact ⟨of_decide_eq_true rfl, of_decide_eq_true rfl⟩

/-- The word of every operation lies in the operation's row: the family `EncodeRow` as one statement. -/
theorem encode_row (i : Instr) : Laws.EncodeRow.Statement i := by
  cases i with
  | tick => exact Laws.EncodeRow.tick
  | sample => exact Laws.EncodeRow.sample
  | wrNr10 v => exact Laws.EncodeRow.wrNr10 v
  | wrNr11 v => exact Laws.EncodeRow.wrNr11 v
  | wrNr12 v => exact Laws.EncodeRow.wrNr12 v
  | wrNr13 v => exact Laws.EncodeRow.wrNr13 v
  | wrNr14 v => exact Laws.EncodeRow.wrNr14 v
  | wrNr21 v => exact Laws.EncodeRow.wrNr21 v
  | wrNr22 v => exact Laws.EncodeRow.wrNr22 v
  | wrNr23 v => exact Laws.EncodeRow.wrNr23 v
  | wrNr24 v => exact Laws.EncodeRow.wrNr24 v
  | wrNr30 v => exact Laws.EncodeRow.wrNr30 v
  | wrNr31 v => exact Laws.EncodeRow.wrNr31 v
  | wrNr32 v => exact Laws.EncodeRow.wrNr32 v
  | wrNr33 v => exact Laws.EncodeRow.wrNr33 v
  | wrNr34 v => exact Laws.EncodeRow.wrNr34 v
  | wrNr41 v => exact Laws.EncodeRow.wrNr41 v
  | wrNr42 v => exact Laws.EncodeRow.wrNr42 v
  | wrNr43 v => exact Laws.EncodeRow.wrNr43 v
  | wrNr44 v => exact Laws.EncodeRow.wrNr44 v
  | wrNr50 v => exact Laws.EncodeRow.wrNr50 v
  | wrNr51 v => exact Laws.EncodeRow.wrNr51 v
  | wrNr52 v => exact Laws.EncodeRow.wrNr52 v
  | rdNr10 => exact Laws.EncodeRow.rdNr10
  | rdNr11 => exact Laws.EncodeRow.rdNr11
  | rdNr12 => exact Laws.EncodeRow.rdNr12
  | rdNr13 => exact Laws.EncodeRow.rdNr13
  | rdNr14 => exact Laws.EncodeRow.rdNr14
  | rdNr21 => exact Laws.EncodeRow.rdNr21
  | rdNr22 => exact Laws.EncodeRow.rdNr22
  | rdNr23 => exact Laws.EncodeRow.rdNr23
  | rdNr24 => exact Laws.EncodeRow.rdNr24
  | rdNr30 => exact Laws.EncodeRow.rdNr30
  | rdNr31 => exact Laws.EncodeRow.rdNr31
  | rdNr32 => exact Laws.EncodeRow.rdNr32
  | rdNr33 => exact Laws.EncodeRow.rdNr33
  | rdNr34 => exact Laws.EncodeRow.rdNr34
  | rdNr41 => exact Laws.EncodeRow.rdNr41
  | rdNr42 => exact Laws.EncodeRow.rdNr42
  | rdNr43 => exact Laws.EncodeRow.rdNr43
  | rdNr44 => exact Laws.EncodeRow.rdNr44
  | rdNr50 => exact Laws.EncodeRow.rdNr50
  | rdNr51 => exact Laws.EncodeRow.rdNr51
  | rdNr52 => exact Laws.EncodeRow.rdNr52
  | wrWave k v => exact Laws.EncodeRow.wrWave k v
  | rdWave k => exact Laws.EncodeRow.rdWave k
  | wrHole15 v => exact Laws.EncodeRow.wrHole15 v
  | rdHole15 => exact Laws.EncodeRow.rdHole15
  | wrHole1F v => exact Laws.EncodeRow.wrHole1F v
  | rdHole1F => exact Laws.EncodeRow.rdHole1F
  | wrHole27 v => exact Laws.EncodeRow.wrHole27 v
  | rdHole27 => exact Laws.EncodeRow.rdHole27
  | wrHole28_2F k v => exact Laws.EncodeRow.wrHole28_2F k v
  | rdHole28_2F k => exact Laws.EncodeRow.rdHole28_2F k
  | wrUnmapped a v => exact Laws.EncodeRow.wrUnmapped a v
  | rdUnmapped a => exact Laws.EncodeRow.rdUnmapped a

/-- Every word lies in the row of its decoded operation. -/
theorem decode_row (w : OpWord) :
    ∃ r ∈ opTable, r.mnemonic = (decode w).mnemonic ∧ r.takes w = true := by
  rcases opWord_kinds w with ⟨a, v, rfl⟩ | ⟨a, v, rfl⟩ | ⟨a, v, rfl⟩ | ⟨a, v, rfl⟩
  · exact ⟨⟨"TICK", 0x0000000#26, 0x3000000#26⟩, by decide, by rw [decode_tickWord]; rfl,
      (takes_opWord _ 0#2 _ 3#2 0x0000#16 _ 0x0000#16 _).trans (by simp)⟩
  · exact ⟨⟨"SAMPLE", 0x1000000#26, 0x3000000#26⟩, by decide, by rw [decode_sampleWord]; rfl,
      (takes_opWord _ 1#2 _ 3#2 0x0000#16 _ 0x0000#16 _).trans (by simp)⟩
  · obtain ⟨r, hr, name, takes⟩ := encode_row (decodeRd a)
    rw [(encode_decodeRd a).2, takes_eq_takesAt hr] at takes
    exact ⟨r, hr, by rw [name, decode_readWord], by rw [takes_eq_takesAt hr, takes]⟩
  · obtain ⟨r, hr, name, takes⟩ := encode_row (decodeWr a v)
    rw [(encode_decodeWr a v).2] at takes
    exact ⟨r, hr, by rw [name, decode_writeWord], takes⟩

/-- The number of an operation word's kind (rule R160). -/
theorem opWord_div (k : BitVec 2) (a : Addr) (v : Byte) :
    (opWord k a v).toNat / 2 ^ 24 = k.toNat := by
  have kind : (opKind (opWord k a v)).toNat = (opWord k a v).toNat / 2 ^ 24 % 2 ^ 2 := by
    rw [opKind, BitVec.extractLsb'_toNat, Nat.shiftRight_eq_div_pow]
  have := (opWord k a v).isLt
  rw [opKind_opWord] at kind
  omega

/-! ### The statements -/

/-- Settles O1: the rows with one address decode by comparing it, the blocks by their fields, and a
well-formed catch-all address is no row's. -/
theorem decodeInvertsEncode : Obligations.DecodeInvertsEncode := by
  unfold Obligations.DecodeInvertsEncode
  intro i wf
  cases i with
  | tick => exact decode_tickWord _ _
  | sample => exact decode_sampleWord _ _
  | wrNr10 v | wrNr11 v | wrNr12 v | wrNr13 v | wrNr14 v | wrNr21 v | wrNr22 v | wrNr23 v
    | wrNr24 v | wrNr30 v | wrNr31 v | wrNr32 v | wrNr33 v | wrNr34 v | wrNr41 v | wrNr42 v
    | wrNr43 v | wrNr44 v | wrNr50 v | wrNr51 v | wrNr52 v | wrHole15 v | wrHole1F v
    | wrHole27 v =>
    exact decode_writeWord _ v
  | rdNr10 | rdNr11 | rdNr12 | rdNr13 | rdNr14 | rdNr21 | rdNr22 | rdNr23 | rdNr24 | rdNr30
    | rdNr31 | rdNr32 | rdNr33 | rdNr34 | rdNr41 | rdNr42 | rdNr43 | rdNr44 | rdNr50 | rdNr51
    | rdNr52 | rdHole15 | rdHole1F | rdHole27 =>
    exact decode_readWord _ _
  | wrWave k v => exact (decode_writeWord _ v).trans (decodeWr_wave k v)
  | rdWave k => exact (decode_readWord _ _).trans (decodeRd_wave k)
  | wrHole28_2F k v => exact (decode_writeWord _ v).trans (decodeWr_hole28 k v)
  | rdHole28_2F k => exact (decode_readWord _ _).trans (decodeRd_hole28 k)
  | wrUnmapped a v =>
    rw [Instr.wf, Bool.not_eq_true'] at wf
    exact (decode_writeWord a v).trans (decodeWr_outside wf v)
  | rdUnmapped a =>
    rw [Instr.wf, Bool.not_eq_true'] at wf
    exact (decode_readWord a _).trans (decodeRd_outside wf)

/-- Settles O2: the row of the decoded operation takes the word, and any other row that does is
lighter: where the row looks at the address by the table, else because no row that looks at the
address takes a word outside `0xFF10..0xFF3F`. -/
theorem decodeFollowsOpcodeTable : Obligations.DecodeFollowsOpcodeTable := by
  unfold Obligations.DecodeFollowsOpcodeTable
  intro w
  obtain ⟨r, hr, name, takes⟩ := decode_row w
  refine ⟨r, hr, takes, name, fun q hq qTakes ne => ?_⟩
  have agree := takes_both qTakes takes
  by_cases hm : r.mask = kindMask
  · by_cases qm : q.mask = kindMask
    · exact absurd (kind_rows_disjoint r hr hm q hq qm agree) ne
    · have outside := kind_row_mnemonics r hr hm
      rw [← opWord_fields w] at qTakes name
      rw [takes_eq_takesAt hq] at qTakes
      obtain ⟨kind, inside⟩ := inside_of_takesAt hq qm qTakes
      obtain ⟨noWrite, noRead⟩ := mnemonic_inside inside (opData w)
      rw [name] at outside
      rcases kind with h | h <;> rw [h] at outside
      · exact absurd (decode_readWord _ _ ▸ outside) noRead
      · exact absurd (decode_writeWord _ _ ▸ outside) noWrite
  · exact rivals_lighter r hr hm q hq agree ne

/-- Settles O3: kind by kind, masking a word is masking its fields. -/
theorem encodeRestoresTheWord : Obligations.EncodeRestoresTheWord := by
  unfold Obligations.EncodeRestoresTheWord
  have kindBits : 0x3000000#26 = opWord 3#2 0#16 0#8 := by decide
  have accessBits : 0x3FFFF00#26 = opWord 3#2 0xFFFF#16 0#8 := by decide
  intro w
  rcases opWord_kinds w with ⟨a, v, rfl⟩ | ⟨a, v, rfl⟩ | ⟨a, v, rfl⟩ | ⟨a, v, rfl⟩ <;>
    rw [opWord_div]
  · rw [decode_tickWord, if_pos (by decide), kindBits, opWord_and, BitVec.and_zero, BitVec.and_zero]
    exact ⟨rfl, rfl⟩
  · rw [decode_sampleWord, if_pos (by decide), kindBits, opWord_and, BitVec.and_zero, BitVec.and_zero]
    exact ⟨rfl, rfl⟩
  · obtain ⟨wf, word⟩ := encode_decodeRd a
    have all : a &&& 0xFFFF#16 = a := BitVec.and_allOnes
    rw [decode_readWord, if_neg (by decide), if_pos (by decide), accessBits, opWord_and, all,
      BitVec.and_zero]
    exact ⟨wf, word⟩
  · obtain ⟨wf, word⟩ := encode_decodeWr a v
    rw [decode_writeWord, if_neg (by decide), if_neg (by decide)]
    exact ⟨wf, word⟩

/-- Settles O4, by running the decoder on each word. -/
theorem writtenOutWordsDecode : Obligations.WrittenOutWordsDecode := by
  unfold Obligations.WrittenOutWordsDecode
  decide

end Sys2Proof

/-!
PROOFS. One step of the machine: a presented word is run by kind, address and data (rules R103,
R160), a clock edge writes and then ticks (rules R100, R102), and runs of presented operations.
-/

namespace Sys2Proof.Machine

open Sys2Proof.Claim

/-! ### A presented word -/

section
variable (P : Params) (a : Addr) (v : Byte) (s : State)

@[simp] theorem runWord_tick : runWord P (opWord 0#2 a v) s = changes tick s := by
  simp [runWord]

@[simp] theorem runWord_sample :
    runWord P (opWord 1#2 a v) s = answers (sampleAnswer P.dutyTable) s := by
  simp [runWord]

@[simp] theorem runWord_read : runWord P (opWord 2#2 a v) s =
    answers (fun x => .byte (busRead P.readMask a x)) s := by
  simp [runWord]

@[simp] theorem runWord_write : runWord P (opWord 3#2 a v) s = changes (busWrite a v) s := by
  simp [runWord]

end

/-- The operation a word decodes to is the word run under the spec's parameters. -/
theorem exec_decode (w : OpWord) (s : State) : exec (decode w) s = runWord Params.spec w s := by
  rcases opWord_kinds w with ⟨a, v, rfl⟩ | ⟨a, v, rfl⟩ | ⟨a, v, rfl⟩ | ⟨a, v, rfl⟩
  · rw [decode_tickWord, runWord_tick]; rfl
  · rw [decode_sampleWord, runWord_sample]; rfl
  · rw [decode_readWord, runWord_read, exec_decodeRd]; rfl
  · rw [decode_writeWord, runWord_write, exec_decodeWr]

theorem step_op {s : State} {w : OpWord} {rest : List Input} (h : s.inputs = .op w :: rest) :
    step s = exec (decode w) (s.withInputs rest) := by
  rw [step, h]

theorem step_clock {s : State} {p : Pins} {rest : List Input} (h : s.inputs = .clock p :: rest) :
    step s = execClock Params.spec p (s.withInputs rest) := by
  rw [step, h]

theorem stepWith_op (P : Params) {s : State} {w : OpWord} {rest : List Input}
    (h : s.inputs = .op w :: rest) : stepWith P s = runWord P w (s.withInputs rest) := by
  rw [stepWith, h]

theorem stepWith_clock (P : Params) {s : State} {p : Pins} {rest : List Input}
    (h : s.inputs = .clock p :: rest) : stepWith P s = execClock P p (s.withInputs rest) := by
  rw [stepWith, h]

/-- The machine at the spec's parameters is the machine with parameters at their values. -/
theorem step_eq_stepWith (s : State) : step s = stepWith Params.spec s := by
  rcases hi : s.inputs with _ | ⟨w | p, rest⟩
  · rw [step, stepWith, hi]
  · rw [step_op hi, stepWith_op _ hi, exec_decode]
  · rw [step_clock hi, stepWith_clock _ hi]

/-- A word runs in every state and keeps the stream. -/
theorem runWord_next (P : Params) (w : OpWord) (s : State) :
    ∃ t, runWord P w s = .next t ∧ t.inputs = s.inputs := by
  rcases opWord_kinds w with ⟨a, v, rfl⟩ | ⟨a, v, rfl⟩ | ⟨a, v, rfl⟩ | ⟨a, v, rfl⟩
  · exact ⟨_, (runWord_tick P a v s).trans (changes_eq _ s), rfl⟩
  · exact ⟨_, (runWord_sample P a v s).trans (answers_eq _ s), rfl⟩
  · exact ⟨_, (runWord_read P a v s).trans (answers_eq _ s), rfl⟩
  · exact ⟨_, (runWord_write P a v s).trans (changes_eq _ s), rfl⟩

theorem step_presentTick {s : State} {rest : List Input} (h : s.inputs = presentTick :: rest) :
    step s = .next { apu := tick s.apu, inputs := rest, response := .none } := by
  rw [step_eq_stepWith, stepWith_op _ h, runWord_tick, changes_eq]; rfl

theorem step_presentWrite {s : State} {a : Addr} {v : Byte} {rest : List Input}
    (h : s.inputs = presentWrite a v :: rest) :
    step s = .next { apu := busWrite a v s.apu, inputs := rest, response := .none } := by
  rw [step_eq_stepWith, stepWith_presentWrite _ h, changes_eq]; rfl

/-- What a table number that decodes presents. -/
theorem withFetchWord_of_decodes {n : Nat} {i : Instr} (h : decodeTableWord 32 n = some i)
    (s : State) : ∃ w, decode w = i ∧ s.withFetchWord 32 n = s.withInputs (.op w :: s.inputs) := by
  unfold decodeTableWord decodeNumber at h
  unfold State.withFetchWord
  by_cases fits : n % 2 ^ 32 < 2 ^ 26
  · rw [if_pos fits] at h ⊢
    exact ⟨_, Option.some.inj h, rfl⟩
  · rw [if_neg fits] at h
    cases h

/-! ### A clock edge -/

section
variable {P : Params} {p : Pins} (s : State)

theorem execClock_reset (h : p.rst = true) : execClock P p s =
    .next { s with apu := Apu.resetIn P, response := portsOf P p.addr (Apu.resetIn P) } := by
  rw [execClock, if_pos h]; rfl

theorem execClock_both (h : p.rst = false) (hb : (p.we && p.re) = true) :
    execClock P p s = .refused .readAndWriteTogether := by
  rw [execClock, h, if_neg Bool.false_ne_true, if_pos hb]

theorem execClock_runs (h : p.rst = false) (hb : (p.we && p.re) = false) : execClock P p s =
    .next { s with apu := tick (edgeWrite p s.apu), response := portsOf P p.addr s.apu } := by
  rw [execClock, h, hb, if_neg Bool.false_ne_true, if_neg Bool.false_ne_true]; rfl

end

theorem edgeWrite_we {p : Pins} (h : p.we = true) : edgeWrite p = busWrite p.addr p.wdata := by
  funext a; rw [edgeWrite, if_pos h]

theorem edgeWrite_no_we {p : Pins} (h : p.we = false) (a : Apu) : edgeWrite p a = a := by
  rw [edgeWrite, h, if_neg Bool.false_ne_true]

/-- The rules of a clock edge hold of the machine under every value of the parameters. -/
theorem stepWith_edgeRule (P : Params) : EdgeRule P (stepWith P) := by
  refine ⟨fun s p rest h => ?_, fun a addr => ?_⟩
  · rw [stepWith_clock P h]
    refine ⟨fun rst => ?_, fun rst we re => ?_, fun rst we re => ?_, fun rst we => ?_⟩
    · rw [execClock_reset _ rst]; rfl
    · rw [execClock_both _ rst (by rw [we, re]; rfl)]
    · rw [execClock_runs _ rst (by rw [re, Bool.and_false]), edgeWrite_we we]; rfl
    · rw [execClock_runs _ rst (by rw [we, Bool.false_and]), edgeWrite_no_we we]; rfl
  · refine ⟨busRead P.readMask addr a, (samplePair P.dutyTable a).1, (samplePair P.dutyTable a).2,
      rfl, ?_⟩
    rintro s rest rfl
    refine ⟨fun h => ?_, fun h => ?_⟩
    · rw [stepWith_presentRead P h, answers_eq]; rfl
    · rw [stepWith_op P h, runWord_sample, answers_eq]; rfl

/-! ### Runs -/

/-- The operations that one clock edge without reset stands for are its write, if any, and its
`TICK`. -/
theorem run_edgeOps (p : Pins) {s : State} {rest : List Input} (h : s.inputs = edgeOps p ++ rest)
    (n : Nat) : ∃ t, t.apu = tick (edgeWrite p s.apu) ∧ t.inputs = rest ∧
      Host.Core.run Sys2Proof.core ((edgeOps p).length + n) s = Host.Core.run Sys2Proof.core n t := by
  cases we : p.we with
  | false =>
    rw [edgeOps, we] at h ⊢
    refine ⟨⟨tick s.apu, rest, .none⟩, by rw [edgeWrite_no_we we], rfl, ?_⟩
    exact (congrArg (Host.Core.run _ · s) (Nat.add_comm 1 n)).trans (run_next n (step_presentTick h))
  | true =>
    rw [edgeOps, we] at h ⊢
    refine ⟨⟨tick (busWrite p.addr p.wdata s.apu), rest, .none⟩, by rw [edgeWrite_we we], rfl, ?_⟩
    calc Host.Core.run _ (2 + n) s
      _ = Host.Core.run _ (n + 1 + 1) s := by rw [Nat.add_comm 2 n]
      _ = _ := run_next (n + 1) (step_presentWrite h)
      _ = _ := run_next n (step_presentTick rfl)

/-- The run over clock edges and the run over the operations they stand for, from machines with one
APU. -/
theorem run_edges (ps : List Pins) (h : ∀ p ∈ ps, p.rst = false ∧ (p.we && p.re) = false) :
    ∀ s u : State, s.apu = u.apu → s.inputs = ps.map .clock → u.inputs = ps.flatMap edgeOps →
      ∃ s' u', Host.Core.run Sys2Proof.core ps.length s = .next s' ∧
        Host.Core.run Sys2Proof.core (ps.flatMap edgeOps).length u = .next u' ∧
        s'.apu = u'.apu ∧ s'.inputs = [] ∧ u'.inputs = [] := by
  induction ps with
  | nil => exact fun s u apu hs hu => ⟨s, u, rfl, rfl, apu, hs, hu⟩
  | cons p ps ih =>
    intro s u apu hs hu
    obtain ⟨rst, notBoth⟩ := h p List.mem_cons_self
    obtain ⟨s₁, edge, sApu, sInputs⟩ : ∃ s₁, step s = .next s₁ ∧
        s₁.apu = tick (edgeWrite p s.apu) ∧ s₁.inputs = ps.map .clock :=
      ⟨_, (step_clock hs).trans (execClock_runs _ rst notBoth), rfl, rfl⟩
    obtain ⟨u₁, uApu, uInputs, runs⟩ := run_edgeOps p (hu.trans List.flatMap_cons)
      (ps.flatMap edgeOps).length
    obtain ⟨s', u', hs', hu', rest⟩ := ih (fun q hq => h q (List.mem_cons_of_mem p hq)) s₁ u₁
      (by rw [sApu, uApu, apu]) sInputs uInputs
    refine ⟨s', u', (run_next _ edge).trans hs', ?_, rest⟩
    rw [List.flatMap_cons, List.length_append, runs, hu']

/-! ### The statements -/

/-- Settles O5: the first input is what `step` matches on, and the table's number presents a word
that decodes to the operation. -/
theorem stepRunsThePresentedOperation : Obligations.StepRunsThePresentedOperation := by
  unfold Obligations.StepRunsThePresentedOperation
  refine ⟨fun s w rest h => step_op h, fun s i rest wf h => ?_, fun s n i h => ?_, step_eq_stepWith⟩
  · rw [step_op h, decodeInvertsEncode i wf]; rfl
  · obtain ⟨w, rfl, presented⟩ := withFetchWord_of_decodes h s
    rw [presented, step_op rfl]
    rfl

/-- Settles O6: `step` is the machine at the spec's parameters, and every `stepWith P` has the rule. -/
theorem clockEdgeWritesThenTicks : Obligations.ClockEdgeWritesThenTicks := by
  unfold Obligations.ClockEdgeWritesThenTicks
  have same : step = stepWith Params.spec := funext step_eq_stepWith
  exact ⟨same ▸ stepWith_edgeRule Params.spec, stepWith_edgeRule⟩

/-- Settles O7, by induction on the clock edges: each is its write, if any, and its `TICK`. -/
theorem portMachineRefinesOperations : Obligations.PortMachineRefinesOperations := by
  unfold Obligations.PortMachineRefinesOperations
  intro a r ps h
  exact run_edges ps h _ _ rfl rfl rfl

/-- Settles O8: every meaning ends in `changes` or `answers`, which answer a next state. -/
theorem everyOperationSucceeds : Obligations.EveryOperationSucceeds := by
  unfold Obligations.EveryOperationSucceeds
  refine ⟨fun i s => ?_, fun P s w rest h => ?_, fun f => nomatch f⟩
  · cases i <;> exact ⟨_, rfl, rfl⟩
  · rw [stepWith_op P h]
    exact runWord_next P w _

/-- Settles O44, both by induction on the number of cycles run first. -/
theorem advanceRunsAndSplits : Obligations.AdvanceRunsAndSplits := by
  unfold Obligations.AdvanceRunsAndSplits
  refine ⟨fun n => ?_, fun m n => ?_⟩
  · induction n with
    | zero => exact fun s rest h => ⟨s, rfl, rfl, h⟩
    | succ n ih =>
      intro s rest h
      have ticks : s.inputs = presentTick :: (scriptAdvance n ++ rest) := h
      rw [run_next n (step_presentTick ticks)]
      exact ih _ rest rfl
  · induction m with
    | zero => intro a; rw [Nat.zero_add]; rfl
    | succ m ih => intro a; rw [Nat.add_right_comm]; exact ih (tick a)

end Sys2Proof.Machine

/-!
PROOFS. Reset (rule R70) and the reachable-state invariant (rule R55): it holds of the reset
state and every step keeps it; what it says of a powered-off APU (rule R436).
-/

namespace Sys2Proof.Machine

open Sys2Proof.Claim

/-! ### Reset -/

/-- Every register byte is 0x00 after reset. -/
@[simp] theorem Regs.get_reset (n : Reg) : Regs.reset.get n = 0x00#8 := by cases n <;> rfl

theorem Memory.read_ofInit (init : Nat → Byte) {k : Nat} (h : k < 16) :
    (Memory.ofInit init).read (0xFF30 + k) = some (init k) := by
  interval_cases k <;> rfl

theorem Apu.resetWith_inv (init : Nat → Byte) (p : Bool) : (Apu.resetWith init p).Inv where
  ch1 := ⟨Nat.zero_le _, Nat.zero_le _, Nat.zero_le _, Nat.zero_le _, nofun⟩
  sweep := ⟨Nat.zero_le _, Nat.zero_le _, nofun⟩
  ch2 := ⟨Nat.zero_le _, Nat.zero_le _, Nat.zero_le _, Nat.zero_le _, nofun⟩
  ch3 := ⟨Nat.zero_le _, Nat.zero_le _, nofun⟩
  ch4 := ⟨Nat.zero_le _, Nat.zero_le _, Nat.zero_le _, Nat.zero_le _, nofun⟩
  fst := Nat.zero_le _
  mem := Memory.ofInit_wf init
  dac := nofun
  off := fun _ => ⟨⟨rfl, rfl, rfl, rfl⟩, rfl, rfl⟩

/-! ### Writes keep the invariant -/

section
variable {a : Apu} (h : a.Inv) (hp : a.power = true)
include h hp

theorem setEnabled_false_inv (c : Channel) : (setEnabled c false a).Inv := by
  cases c
  · exact .of_on hp ⟨h.ch1.ft, h.ch1.len, h.ch1.et, h.ch1.vol, nofun⟩ h.sweep h.ch2 h.ch3 h.ch4
      h.fst h.mem h.dac
  · exact .of_on hp h.ch1 h.sweep ⟨h.ch2.ft, h.ch2.len, h.ch2.et, h.ch2.vol, nofun⟩ h.ch3 h.ch4
      h.fst h.mem h.dac
  · exact .of_on hp h.ch1 h.sweep h.ch2 ⟨h.ch3.ft, h.ch3.len, nofun⟩ h.ch4 h.fst h.mem nofun
  · exact .of_on hp h.ch1 h.sweep h.ch2 h.ch3 ⟨h.ch4.ft, h.ch4.len, h.ch4.et, h.ch4.vol, nofun⟩
      h.fst h.mem h.dac

theorem disableUnless_inv (on : Bool) (c : Channel) : (disableUnless on c a).Inv := by
  unfold disableUnless
  split
  · exact h
  · exact setEnabled_false_inv h hp c

/-- NR30 is the one byte the invariant looks at: a write that turns the DAC off clears `en3`. -/
theorem writeNr30_inv (v : Byte) : (writeNr30 v a).Inv := by
  unfold writeNr30 disableUnless
  split
  · next on => exact .of_on hp h.ch1 h.sweep h.ch2 h.ch3 h.ch4 h.fst h.mem fun _ => on
  · exact .of_on hp h.ch1 h.sweep h.ch2 ⟨h.ch3.ft, h.ch3.len, nofun⟩ h.ch4 h.fst h.mem nofun

theorem trigger1_inv : (trigger1 a).Inv :=
  .of_on hp (pulseTrigger_inRange h.ch1 (reload_ch1_range _).2) (sweepAtTrigger_inRange _) h.ch2
    h.ch3 h.ch4 h.fst h.mem h.dac

theorem trigger2_inv : (trigger2 a).Inv :=
  .of_on hp h.ch1 h.sweep (pulseTrigger_inRange h.ch2 (reload_ch2_range _).2) h.ch3 h.ch4 h.fst
    h.mem h.dac

/-- The trigger of channel 3 sets `en3` only with the DAC on. -/
theorem trigger3_inv : (trigger3 a).Inv := by
  unfold trigger3
  split
  · next on =>
    exact .of_on hp h.ch1 h.sweep h.ch2 (waveTrigger_inRange h.ch3 (reload_ch3_range _).2) h.ch4
      h.fst h.mem fun _ => on
  · exact h

theorem trigger4_inv : (trigger4 a).Inv :=
  .of_on hp h.ch1 h.sweep h.ch2 h.ch3 (noiseTrigger_inRange h.ch4 (reload_ch4_range _).2) h.fst
    h.mem h.dac

/-- A powered-on write of a register keeps the invariant. -/
theorem writeReg_inv (n : Reg) (v : Byte) : (writeReg n v a).Inv := by
  have stored : n ≠ .nr30 → (storeReg n v a).Inv := storeReg_inv n v h hp
  have short := shortLength_range v
  have long := waveLength_range v
  cases n with
  | nr10 | nr13 | nr23 | nr32 | nr33 | nr43 | nr50 | nr51 => exact stored (by decide)
  | nr11 =>
    exact .of_on hp ⟨h.ch1.ft, short.2, h.ch1.et, h.ch1.vol, fun _ => short.1⟩ h.sweep h.ch2 h.ch3
      h.ch4 h.fst h.mem h.dac
  | nr21 =>
    exact .of_on hp h.ch1 h.sweep ⟨h.ch2.ft, short.2, h.ch2.et, h.ch2.vol, fun _ => short.1⟩ h.ch3
      h.ch4 h.fst h.mem h.dac
  | nr31 =>
    exact .of_on hp h.ch1 h.sweep h.ch2 ⟨h.ch3.ft, long.2, fun _ => long.1⟩ h.ch4 h.fst h.mem h.dac
  | nr41 =>
    exact .of_on hp h.ch1 h.sweep h.ch2 h.ch3
      ⟨h.ch4.ft, short.2, h.ch4.et, h.ch4.vol, fun _ => short.1⟩ h.fst h.mem h.dac
  | nr12 | nr22 | nr42 => exact disableUnless_inv (stored (by decide)) hp _ _
  | nr30 => exact writeNr30_inv h hp v
  | nr14 =>
    exact iteInduction (fun _ => trigger1_inv (stored (by decide)) hp) fun _ => stored (by decide)
  | nr24 =>
    exact iteInduction (fun _ => trigger2_inv (stored (by decide)) hp) fun _ => stored (by decide)
  | nr34 =>
    exact iteInduction (fun _ => trigger3_inv (stored (by decide)) hp) fun _ => stored (by decide)
  | nr44 =>
    exact iteInduction (fun _ => trigger4_inv (stored (by decide)) hp) fun _ => stored (by decide)

theorem storeWave_inv (k : Nat) (v : Byte) : (storeWave k v a).Inv :=
  .of_on hp h.ch1 h.sweep h.ch2 h.ch3 h.ch4 h.fst (Memory.write_wf h.mem _ _) h.dac

end

/-- Everything a bus write can do (rule R200). -/
theorem busWrite_cases (addr : Addr) (v : Byte) (a : Apu) :
    (addr = 0xFF26#16 ∧ busWrite addr v a = powerWrite v a) ∨
    (addr ≠ 0xFF26#16 ∧ a.power = false ∧ busWrite addr v a = a) ∨
    (addr ≠ 0xFF26#16 ∧ a.power = true ∧
      ((∃ n : Reg, addr = n.addr ∧ busWrite addr v a = writeReg n v a) ∨
       (∃ k, busWrite addr v a = storeWave k v a) ∨ busWrite addr v a = a)) := by
  rw [busWrite_eq_written]
  unfold written
  by_cases hp : addr = 0xFF26#16
  · exact .inl ⟨hp, if_pos hp⟩
  rw [if_neg hp]
  by_cases off : a.power = false
  · exact .inr (.inl ⟨hp, off, if_pos off⟩)
  rw [if_neg off]
  refine .inr (.inr ⟨hp, by simpa using off, ?_⟩)
  rcases hr : regAt addr with _ | n
  · dsimp only
    split
    · exact .inr (.inl ⟨_, rfl⟩)
    · exact .inr (.inr rfl)
  · exact .inl ⟨n, (addr_of_regAt hr).symm, rfl⟩

theorem busWrite_inv (addr : Addr) (v : Byte) {a : Apu} (h : a.Inv) : (busWrite addr v a).Inv := by
  rcases busWrite_cases addr v a with ⟨-, e⟩ | ⟨-, -, e⟩ | ⟨-, on, ⟨n, -, e⟩ | ⟨k, e⟩ | e⟩ <;> rw [e]
  · exact powerWrite_inv v h
  · exact h
  · exact writeReg_inv h on n v
  · exact storeWave_inv h on k v
  · exact h

/-! ### Steps keep the invariant -/

theorem edgeWrite_inv (p : Pins) {a : Apu} (h : a.Inv) : (edgeWrite p a).Inv := by
  unfold edgeWrite
  split
  · exact busWrite_inv _ _ h
  · exact h

theorem runWord_inv (P : Params) (w : OpWord) {s t : State} (h : s.Inv)
    (run : runWord P w s = .next t) : t.Inv := by
  rcases opWord_kinds w with ⟨a, v, rfl⟩ | ⟨a, v, rfl⟩ | ⟨a, v, rfl⟩ | ⟨a, v, rfl⟩
  · rw [runWord_tick, changes_eq] at run; cases run; exact tick_inv h
  · rw [runWord_sample, answers_eq] at run; cases run; exact h
  · rw [runWord_read, answers_eq] at run; cases run; exact h
  · rw [runWord_write, changes_eq] at run; cases run; exact busWrite_inv a v h

theorem execClock_inv (P : Params) (p : Pins) {s t : State} (h : s.Inv)
    (run : execClock P p s = .next t) : t.Inv := by
  cases rst : p.rst
  · cases both : p.we && p.re
    · rw [execClock_runs _ rst both] at run; cases run; exact tick_inv (edgeWrite_inv p h)
    · rw [execClock_both _ rst both] at run; cases run
  · rw [execClock_reset _ rst] at run; cases run; exact Apu.resetWith_inv _ _

theorem stepWith_inv (P : Params) {s t : State} (h : s.Inv) (run : stepWith P s = .next t) :
    t.Inv := by
  rcases hi : s.inputs with _ | ⟨w | p, rest⟩
  · rw [stepWith, hi] at run; cases run
  · rw [stepWith_op P hi] at run; exact runWord_inv (s := s.withInputs rest) P w h run
  · rw [stepWith_clock P hi] at run; exact execClock_inv (s := s.withInputs rest) P p h run

/-! ### A powered-off APU -/

theorem tick_off {a : Apu} (h : a.power = false) : tick a = a := by
  rw [tick, h, if_neg Bool.false_ne_true]

theorem samplePair_off (t : DutyTable) {a : Apu} (h : a.power = false) :
    samplePair t a = (0, 0) := by
  rw [samplePair, h, if_neg Bool.false_ne_true]

theorem enabled_off {a : Apu} (h : a.Inv) (off : a.power = false) (c : Channel) :
    enabled c a = false := by
  obtain ⟨⟨e1, e2, e3, e4⟩, -⟩ := h.off off
  cases c <;> assumption

/-! ### The statements -/

/-- Settles O9, element by element. -/
theorem resetStateValues : Obligations.ResetStateValues := by
  unfold Obligations.ResetStateValues
  exact ⟨fun init p => ⟨Regs.get_reset, fun k => Memory.read_ofInit init, rfl, rfl, rfl, rfl, rfl,
    rfl, rfl⟩, rfl, rfl, rfl⟩

/-- Settles O10: every counter is 0, every `en` flag clear, NR50 and NR51 zero. -/
theorem resetMeetsTheInvariant : Obligations.ResetMeetsTheInvariant := by
  unfold Obligations.ResetMeetsTheInvariant
  exact ⟨Apu.resetWith_inv, Apu.resetWith_inv _ _⟩

/-- Settles O11: a word keeps the invariant because a `TICK` and every bus write do, a clock edge
because it is one of each, and reset meets it. -/
theorem stepKeepsTheInvariant : Obligations.StepKeepsTheInvariant := by
  unfold Obligations.StepKeepsTheInvariant
  refine ⟨fun s t h run => ?_, fun P s t => stepWith_inv P⟩
  rw [step_eq_stepWith] at run
  exact stepWith_inv _ h run

/-- Settles O18: the invariant's last clause, and the power tests of `TICK` and `SAMPLE`. -/
theorem silentWhilePoweredOff : Obligations.SilentWhilePoweredOff := by
  unfold Obligations.SilentWhilePoweredOff
  intro s h off
  obtain ⟨⟨e1, e2, e3, e4⟩, -⟩ := h.off off
  refine ⟨?_, ?_, enabled_off h off, ?_⟩
  · show answers (sampleAnswer dutyTable) s = _
    rw [answers_eq, sampleAnswer, samplePair_off _ off]
  · show changes tick s = _
    rw [changes_eq, tick_off off]
  · show answers (fun a => .byte (statusByte a)) s = _
    rw [answers_eq, statusByte, off, e1, e2, e3, e4]
    rfl

end Sys2Proof.Machine

/-!
PROOFS. Register writes and the power register: the derived quantities as numbers of the stored bytes
(rule R151), what each write of a powered-on APU stores and sets (rules R210 to R251, R270), and who
writes the power bit (rules R45, R262, R503).
-/

namespace Sys2Proof.Machine

open Sys2Proof.Claim

/-! ### Derived quantities -/

theorem reload_ch1_eq (r : Regs) : reload .ch1 r = (2048 - periodVal r.nr13 r.nr14) * 4 := by
  rw [periodVal, ← periodOf_eq]; rfl

theorem reload_ch2_eq (r : Regs) : reload .ch2 r = (2048 - periodVal r.nr23 r.nr24) * 4 := by
  rw [periodVal, ← periodOf_eq]; rfl

theorem reload_ch3_eq (r : Regs) : reload .ch3 r = (2048 - periodVal r.nr33 r.nr34) * 2 := by
  rw [periodVal, ← periodOf_eq]; rfl

theorem baseDivisor_eq (r : Regs) :
    baseDivisor r = if r.nr43.toNat % 8 = 0 then 8 else 16 * (r.nr43.toNat % 8) := by
  rw [baseDivisor, noiseRatio_eq]

theorem reload_ch4_eq_noisePeriod (r : Regs) : reload .ch4 r = noisePeriod r.nr43 := by
  rw [reload_ch4_eq, baseDivisor_eq, noisePeriod]

theorem sweepEnable_eq (r : Regs) : sweepEnable r =
    decide (0 < r.nr10.toNat / 16 % 8 ∨ 0 < r.nr10.toNat % 8) := by
  rw [sweepEnable, sweepPeriod_eq, sweepShift_eq, Bool.decide_or]

/-! ### Writes of a powered-on APU -/

theorem changes_gated_on (f : Apu → Apu) {s : State} (on : s.apu.power = true) :
    changes (gated f) s = .next { s with apu := f s.apu, response := .none } := by
  rw [changes_eq, gated_on f on]

/-- The DAC-disable event as one write of `en`. -/
theorem disableUnless_eq (on : Bool) (c : Channel) (a : Apu) :
    disableUnless on c a = setEnabled c (on && enabled c a) a := by
  cases on
  · rfl
  · cases c <;> rfl

theorem decide_le_and (m n : Nat) (b : Bool) :
    (decide (m ≤ n) && b) = if n < m then false else b := by
  by_cases h : n < m
  · rw [if_pos h, decide_eq_false (not_le.mpr h), Bool.false_and]
  · rw [if_neg h, decide_eq_true (not_lt.mp h), Bool.true_and]

theorem waveDac_eq (b : Byte) : waveDac b = decide (128 ≤ b.toNat) := bit7_eq b

theorem pulseTrigger_eq (b : Byte) (full : Nat) (p : Pulse) : pulseTrigger b full p =
    { p with
      en := true, len := if p.len = 0 then 64 else p.len, ft := full
      et := b.toNat % 8, vol := b.toNat / 16 } := by
  rw [pulseTrigger, envPeriod_eq, envVolume_eq]; rfl

theorem noiseTrigger_eq (b : Byte) (full : Nat) (n : Noise) : noiseTrigger b full n =
    { en := true, ft := full, lfsr := 0x7FFF#15, len := if n.len = 0 then 64 else n.len
      et := b.toNat % 8, vol := b.toNat / 16 } := by
  rw [noiseTrigger, envPeriod_eq, envVolume_eq]; rfl

theorem sweepAtTrigger_eq (r : Regs) : sweepAtTrigger r =
    { swt := if r.nr10.toNat / 16 % 8 = 0 then 8 else r.nr10.toNat / 16 % 8
      shadow := periodVal r.nr13 r.nr14
      swen := decide (0 < r.nr10.toNat / 16 % 8 ∨ 0 < r.nr10.toNat % 8) } := by
  rw [sweepAtTrigger, sweepReload_eq, sweepEnable_eq, period1, periodOf_eq]; rfl

/-- The register whose write triggers a channel. -/
def controlReg : Channel → Reg
  | .ch1 => .nr14
  | .ch2 => .nr24
  | .ch3 => .nr34
  | .ch4 => .nr44

theorem controlAddr_eq (c : Channel) : controlAddr c = (controlReg c).addr := by cases c <;> rfl

/-- The trigger of a channel. -/
def triggerOf (c : Channel) (a : Apu) : Apu :=
  match c with
  | .ch1 => trigger1 a
  | .ch2 => trigger2 a
  | .ch3 => trigger3 a
  | .ch4 => trigger4 a

/-- A write of a control register stores the byte and, with bit 7 set, triggers. -/
theorem writeReg_control (c : Channel) (v : Byte) (a : Apu) : writeReg (controlReg c) v a =
    if v.getLsbD 7 then triggerOf c (storeReg (controlReg c) v a)
    else storeReg (controlReg c) v a := by
  cases c <;> rfl

theorem writeReg_trigger (c : Channel) {v : Byte} (h : v.getLsbD 7 = true) (a : Apu) :
    writeReg (controlReg c) v a = triggerOf c (storeReg (controlReg c) v a) := by
  rw [writeReg_control, if_pos h]

theorem writeReg_plain (c : Channel) {v : Byte} (h : v.getLsbD 7 = false) (a : Apu) :
    writeReg (controlReg c) v a = storeReg (controlReg c) v a := by
  rw [writeReg_control, h, if_neg Bool.false_ne_true]

/-! ### The power register -/

section
variable {v : Byte} {a : Apu}

theorem powerWrite_off (h : v.getLsbD 7 = false) : powerWrite v a = powerOff a := if_pos h

theorem powerWrite_turns_on (h : v.getLsbD 7 = true) (off : a.power = false) :
    powerWrite v a = powerOn a := by
  rw [powerWrite, h, if_neg Bool.true_eq_false.mp, if_pos off]

theorem powerWrite_stays_on (h : v.getLsbD 7 = true) (on : a.power = true) :
    powerWrite v a = a := by
  rw [powerWrite, h, on, if_neg Bool.true_eq_false.mp, if_neg Bool.true_eq_false.mp]

end

/-- `PowerWrite` makes the power bit 7 of the byte. -/
@[simp] theorem powerWrite_power (v : Byte) (a : Apu) : (powerWrite v a).power = v.getLsbD 7 := by
  cases h : v.getLsbD 7
  · rw [powerWrite_off h]; rfl
  · cases off : a.power
    · rw [powerWrite_turns_on h off]; rfl
    · rw [powerWrite_stays_on h off, off]

/-! ### What a register write keeps -/

/-- `b` has the register bytes `r`, and of the rest the memory, the power bit and the frame sequencer
of `a`. -/
structure StoredFrom (a : Apu) (r : Regs) (b : Apu) : Prop where
  regs : b.regs = r
  mem : b.mem = a.mem
  power : b.power = a.power
  fs : b.fs = a.fs

theorem setEnabled_storedFrom (c : Channel) (e : Bool) (a : Apu) :
    StoredFrom a a.regs (setEnabled c e a) := by
  cases c <;> exact ⟨rfl, rfl, rfl, rfl⟩

theorem disableUnless_storeReg (on : Bool) (c : Channel) (n : Reg) (v : Byte) (a : Apu) :
    StoredFrom a (a.regs.set n v) (disableUnless on c (storeReg n v a)) := by
  rw [disableUnless_eq]
  obtain ⟨regs, mem, power, fs⟩ := setEnabled_storedFrom c (on && enabled c (storeReg n v a))
    (storeReg n v a)
  exact ⟨regs, mem, power, fs⟩

theorem trigger3_dac_on {a : Apu} (h : waveDac a.regs.nr30 = true) :
    trigger3 a = a.withCh3 (waveTrigger (reload .ch3 a.regs) a.ch3) := if_pos h

theorem trigger3_dac_off {a : Apu} (h : waveDac a.regs.nr30 = false) : trigger3 a = a :=
  if_neg (Bool.not_eq_true _ |>.mpr h)

/-- A register write stores its byte and, whatever event it is, keeps the memory, the power bit and
the frame sequencer. -/
theorem writeReg_storedFrom (n : Reg) (v : Byte) (a : Apu) :
    StoredFrom a (a.regs.set n v) (writeReg n v a) := by
  have either (m : Reg) {p : Prop} [Decidable p] {x : Apu}
      (hx : StoredFrom a (a.regs.set m v) x) :
      StoredFrom a (a.regs.set m v) (if p then x else storeReg m v a) :=
    iteInduction (fun _ => hx) fun _ => ⟨rfl, rfl, rfl, rfl⟩
  cases n with
  | nr10 | nr11 | nr13 | nr21 | nr23 | nr31 | nr32 | nr33 | nr41 | nr43 | nr50 | nr51 =>
    exact ⟨rfl, rfl, rfl, rfl⟩
  | nr12 | nr22 | nr30 | nr42 => exact disableUnless_storeReg ..
  | nr14 | nr24 | nr44 => exact either _ ⟨rfl, rfl, rfl, rfl⟩
  | nr34 => exact either _ (either _ ⟨rfl, rfl, rfl, rfl⟩)

/-- No register write changes the power bit. -/
@[simp] theorem writeReg_power (n : Reg) (v : Byte) (a : Apu) :
    (writeReg n v a).power = a.power := (writeReg_storedFrom n v a).power

/-- A bus write at any address but that of NR52 keeps the power bit. -/
theorem busWrite_power {addr : Addr} (h : addr ≠ 0xFF26#16) (v : Byte) (a : Apu) :
    (busWrite addr v a).power = a.power := by
  rcases busWrite_cases addr v a with ⟨e, -⟩ | ⟨-, -, e⟩ | ⟨-, -, ⟨n, -, e⟩ | ⟨k, e⟩ | e⟩
  · exact absurd e h
  · rw [e]
  · rw [e, writeReg_power]
  · rw [e, storeWave_power]
  · rw [e]

theorem busWrite_off {addr : Addr} (h : addr ≠ 0xFF26#16) (v : Byte) {a : Apu}
    (off : a.power = false) : busWrite addr v a = a := by
  rw [busWrite_eq_written, written, if_neg h, if_pos off]

@[simp] theorem fsStep_power (k : Fin 8) (a : Apu) : (fsStep k a).power = a.power := by
  fin_cases k
  · exact lengthSteps_power a
  · rfl
  · exact sweepStep_power _
  · rfl
  · exact lengthSteps_power a
  · rfl
  · exact sweepStep_power _
  · rfl

section
variable (a : Apu)
@[simp] theorem timerSteps_regs : (timerSteps a).regs = a.regs := rfl
@[simp] theorem timerSteps_mem : (timerSteps a).mem = a.mem := rfl
@[simp] theorem timerSteps_power : (timerSteps a).power = a.power := rfl
@[simp] theorem timerSteps_sweep : (timerSteps a).sweep = a.sweep := rfl
@[simp] theorem timerSteps_fs : (timerSteps a).fs = a.fs := rfl
end

@[simp] theorem fsTick_power (a : Apu) : (fsTick a).power = a.power := by
  unfold fsTick
  split
  · exact fsStep_power _ a
  · rfl

@[simp] theorem tick_power (a : Apu) : (tick a).power = a.power := by
  unfold tick
  split
  · rw [timerSteps_power, fsTick_power]
  · rfl

/-! ### The statements: power -/

/-- Settles O13: `powerOff` and `powerOn` are the listed updates. -/
theorem powerWriteChangesOnlyTheListed : Obligations.PowerWriteChangesOnlyTheListed := by
  unfold Obligations.PowerWriteChangesOnlyTheListed
  refine ⟨fun s v h => ?_, fun s v h off => ?_⟩
  · show changes (powerWrite v) s = _
    rw [changes_eq, powerWrite_off h]; rfl
  · show changes (powerWrite v) s = _
    rw [changes_eq, powerWrite_turns_on h off]; rfl

/-- Settles O14: `PowerWrite` looks at the byte only through bit 7. -/
theorem redundantPowerWriteIsIgnored : Obligations.RedundantPowerWriteIsIgnored := by
  unfold Obligations.RedundantPowerWriteIsIgnored
  refine ⟨fun s v h on => ?_, fun s v w h => ?_⟩
  · show changes (powerWrite v) s = _
    rw [changes_eq, powerWrite_stays_on h on]
  · show changes (powerWrite v) s = changes (powerWrite w) s
    rw [changes_eq, changes_eq, powerWrite, powerWrite, h]

/-- Settles O15: a word keeps the power bit unless it is a write at NR52, and so does the write of a
clock edge; `TICK` always does. -/
theorem powerWrittenOnlyByNr52OrReset : Obligations.PowerWrittenOnlyByNr52OrReset := by
  unfold Obligations.PowerWrittenOnlyByNr52OrReset
  refine ⟨fun s v => ⟨_, rfl, powerWrite_power v _⟩, fun s t run changed => ?_⟩
  rcases hi : s.inputs with _ | ⟨w | p, rest⟩
  · rw [step, hi] at run; cases run
  · rw [step_op hi, exec_decode] at run
    rcases opWord_kinds w with ⟨a, v, rfl⟩ | ⟨a, v, rfl⟩ | ⟨a, v, rfl⟩ | ⟨a, v, rfl⟩
    · rw [runWord_tick, changes_eq] at run; cases run; exact absurd (tick_power _) changed
    · rw [runWord_sample, answers_eq] at run; cases run; exact absurd rfl changed
    · rw [runWord_read, answers_eq] at run; cases run; exact absurd rfl changed
    · rw [runWord_write, changes_eq] at run; cases run
      by_cases ha : a = 0xFF26#16
      · exact .inl ⟨_, v, rest, rfl, by rw [decode_writeWord, ha]; rfl⟩
      · exact absurd (busWrite_power ha v _) changed
  · refine .inr ⟨p, rest, rfl, ?_⟩
    rw [step_clock hi] at run
    cases rst : p.rst
    · right
      cases both : p.we && p.re
      · rw [execClock_runs _ rst both] at run; cases run
        cases we : p.we
        · refine absurd ?_ changed
          rw [edgeWrite_no_we we]
          exact tick_power _
        · refine ⟨rfl, by_contra fun ha => changed ?_⟩
          rw [edgeWrite_we we]
          exact (tick_power _).trans (busWrite_power ha _ _)
      · rw [execClock_both _ rst both] at run; cases run
    · exact .inl rfl

/-- Settles O16: the two power writes are `powerOff` and `powerOn`; reset is the reset state. -/
theorem powerCycleKeepsTheRest : Obligations.PowerCycleKeepsTheRest := by
  unfold Obligations.PowerCycleKeepsTheRest
  refine ⟨fun s v w hv hw => ?_, fun s p rest h rst => ?_⟩
  · have off : exec (.wrNr52 v) s = .next { s with apu := powerOff s.apu, response := .none } := by
      show changes (powerWrite v) s = _
      rw [changes_eq, powerWrite_off hv]
    have on : exec (.wrNr52 w) { s with apu := powerOff s.apu, response := .none } =
        .next { s with apu := powerOn (powerOff s.apu), response := .none } := by
      show changes (powerWrite w) _ = _
      rw [changes_eq, powerWrite_turns_on hw rfl]
    refine ⟨_, _, off, on, fun n h50 h51 => ?_, rfl, rfl, rfl, rfl, rfl, rfl, rfl, rfl, rfl, rfl⟩
    show ((s.apu.regs.set .nr50 0x00#8).set .nr51 0x00#8).get n = _
    rw [Regs.get_set_other _ _ h51, Regs.get_set_other _ _ h50]
  · exact ⟨_, (step_clock h).trans (execClock_reset _ rst), rfl⟩

/-- Settles O17: the power gate of `WR`, and what `powerOff` clears. -/
theorem writesWhileOffAreLost : Obligations.WritesWhileOffAreLost := by
  unfold Obligations.WritesWhileOffAreLost
  refine ⟨fun s a v off ha => ?_, fun s v h => ?_⟩
  · rw [decode_writeWord, exec_decodeWr, changes_eq, busWrite_off ha v off]
  · refine ⟨{ s with apu := powerOff s.apu, response := .none }, ?_, rfl, rfl, rfl⟩
    show changes (powerWrite v) s = _
    rw [changes_eq, powerWrite_off h]

/-! ### The statements: register writes -/

/-- Settles O23: each of these meanings is one store behind the power gate. -/
theorem plainRegisterWrites : Obligations.PlainRegisterWrites := by
  unfold Obligations.PlainRegisterWrites
  intro s v on
  exact ⟨changes_gated_on (writeNr10 v) on, changes_gated_on (writeNr13 v) on,
    changes_gated_on (writeNr23 v) on, changes_gated_on (writeNr32 v) on,
    changes_gated_on (writeNr33 v) on, changes_gated_on (writeNr43 v) on,
    changes_gated_on (writeNr50 v) on, changes_gated_on (writeNr51 v) on⟩

/-- Settles O24: the store, and the length loads as numbers. -/
theorem lengthLoadWrites : Obligations.LengthLoadWrites := by
  unfold Obligations.LengthLoadWrites
  intro s v on
  rw [← shortLength_eq, ← waveLength_eq]
  exact ⟨changes_gated_on (writeNr11 v) on, changes_gated_on (writeNr21 v) on,
    changes_gated_on (writeNr31 v) on, changes_gated_on (writeNr41 v) on⟩

/-- Settles O25: the store, then the DAC-disable event with the DAC test as a comparison. -/
theorem dacOffWritesIdleTheChannel : Obligations.DacOffWritesIdleTheChannel := by
  unfold Obligations.DacOffWritesIdleTheChannel
  intro s v on
  simp only [← decide_le_and]
  refine ⟨(changes_gated_on (writeNr12 v) on).trans ?_, (changes_gated_on (writeNr22 v) on).trans ?_,
    (changes_gated_on (writeNr30 v) on).trans ?_, (changes_gated_on (writeNr42 v) on).trans ?_⟩
  · rw [writeNr12, disableUnless_eq, dacOn_eq]; rfl
  · rw [writeNr22, disableUnless_eq, dacOn_eq]; rfl
  · rw [writeNr30, disableUnless_eq, waveDac_eq]; rfl
  · rw [writeNr42, disableUnless_eq, dacOn_eq]; rfl

/-- Settles O26: the four writes are the control write of a channel, without its trigger. -/
theorem controlWritesWithoutTrigger : Obligations.ControlWritesWithoutTrigger := by
  unfold Obligations.ControlWritesWithoutTrigger
  intro s v on h
  have stores (c : Channel) : changes (gated (writeReg (controlReg c) v)) s =
      .next { s with apu := storeReg (controlReg c) v s.apu, response := .none } := by
    rw [changes_gated_on _ on, writeReg_plain c h]
  exact ⟨stores .ch1, stores .ch2, stores .ch3, stores .ch4⟩

/-- The control write of a powered-on APU that triggers. -/
theorem changes_trigger (c : Channel) {s : State} {v : Byte} (on : s.apu.power = true)
    (h : v.getLsbD 7 = true) : changes (gated (writeReg (controlReg c) v)) s =
      .next { s with
        apu := triggerOf c (storeReg (controlReg c) v s.apu), response := .none } := by
  rw [changes_gated_on _ on, writeReg_trigger c h]

/-- Settles O27: the trigger runs on the stored byte, each of its parts as numbers of the bytes. -/
theorem pulseATrigger : Obligations.PulseATrigger := by
  unfold Obligations.PulseATrigger
  intro s v on h
  refine (changes_trigger .ch1 on h).trans ?_
  rw [triggerOf, trigger1, pulseTrigger_eq, reload_ch1_eq, sweepAtTrigger_eq]
  rfl

/-- Settles O28: as channel 1's trigger, without the sweep unit. -/
theorem pulseBTrigger : Obligations.PulseBTrigger := by
  unfold Obligations.PulseBTrigger
  intro s v on h
  refine (changes_trigger .ch2 on h).trans ?_
  rw [triggerOf, trigger2, pulseTrigger_eq, reload_ch2_eq]
  rfl

/-- Settles O34: the laws of the wave RAM, its 16 addresses all listed in the canonical form. -/
theorem waveRamWrite : Obligations.WaveRamWrite := by
  unfold Obligations.WaveRamWrite
  intro s k v on wf
  refine ⟨{ s with apu := storeWave k.toNat v s.apu, response := .none },
    changes_gated_on (storeWave k.toNat v) on, rfl, ?_, fun a ha => ?_, ?_⟩
  · exact Memory.read_write_same _ _ _ (by rw [wf]; exact mem_waveAddrs _ k.isLt)
  · exact Memory.read_write_other _ _ ha
  · exact Memory.write_wf wf _ _

/-- Settles O57, from the field lemmas and the ranges of the fields. -/
theorem derivedQuantities : Obligations.DerivedQuantities := by
  unfold Obligations.DerivedQuantities
  refine ⟨fun r => ?_, dacOn_eq⟩
  obtain ⟨div8, div112⟩ := baseDivisor_range r
  obtain ⟨sweep1, sweep8⟩ := sweepReload_range r
  exact ⟨periodOf_eq .., periodOf_eq .., periodOf_eq .., rfl, rfl, rfl, baseDivisor_eq r,
    reload_ch4_eq r, rfl, rfl, rfl, rfl, rfl, sweepReload_eq r, periodOf_le .., periodOf_le ..,
    periodOf_le .., div8, div112, sweep1, sweep8⟩

end Sys2Proof.Machine

/-! The names of the next two are those of functions of the model, in another namespace. -/

namespace Sys2Proof

open Sys2Proof.Machine Sys2Proof.Claim

/-- Settles O29: the DAC bit decides whether the trigger does anything. -/
theorem waveTrigger : Obligations.WaveTrigger := by
  unfold Obligations.WaveTrigger
  intro s v on h
  refine ⟨fun dac => (changes_trigger .ch3 on h).trans ?_,
    fun dac => (changes_trigger .ch3 on h).trans ?_⟩
  · rw [triggerOf, controlReg, trigger3_dac_on (a := storeReg .nr34 v s.apu) dac, reload_ch3_eq]
    rfl
  · rw [triggerOf, controlReg, trigger3_dac_off (a := storeReg .nr34 v s.apu) dac]
    rfl

/-- Settles O30: as the other triggers, with the noise period of NR43 and the seed. -/
theorem noiseTrigger : Obligations.NoiseTrigger := by
  unfold Obligations.NoiseTrigger
  intro s v on h
  refine (changes_trigger .ch4 on h).trans ?_
  rw [triggerOf, trigger4, noiseTrigger_eq, reload_ch4_eq_noisePeriod]
  rfl

end Sys2Proof

/-!
PROOFS. Reads and `SAMPLE`: what each returns (rules R201, R202, R215 to R271, R430), that neither
changes any state (rules R113, R450), what they can see (rule R65), and the ranges of the outputs
(rules R350, R432, R445).
-/

namespace Sys2Proof.Machine

open Sys2Proof.Claim

/-! ### Masked reads -/

theorem answers_byte {f : Apu → Byte} {s : State} {b : Byte} (h : f s.apu = b) :
    answers (fun a => .byte (f a)) s = .next { s with response := .byte b } := by
  rw [answers_eq, h]

/-- A register without mask bits reads as stored. -/
theorem readReg_open {mask : ReadMask} {n : Reg} (h : mask n = 0x00#8) (r : Regs) :
    readReg mask n r = r.get n := by
  rw [readReg, h, BitVec.or_zero]

/-- A register with all mask bits set shows nothing. -/
theorem readReg_hidden {mask : ReadMask} {n : Reg} (h : mask n = 0xFF#8) (r : Regs) :
    readReg mask n r = 0xFF#8 := by
  rw [readReg, h]
  exact BitVec.or_allOnes

/-- The answer of a read of a register without mask bits. -/
theorem answers_open (n : Reg) (h : readMask n = 0x00#8) (s : State) :
    answers (fun a => .byte (readReg readMask n a.regs)) s =
      .next { s with response := .byte (s.apu.regs.get n) } :=
  answers_byte (readReg_open h _)

/-- The answer of a read of a register with all mask bits set. -/
theorem answers_hidden (n : Reg) (h : readMask n = 0xFF#8) (s : State) :
    answers (fun a => .byte (readReg readMask n a.regs)) s =
      .next { s with response := .byte 0xFF#8 } :=
  answers_byte (readReg_hidden h _)

/-- The status byte as a number: power, three ones, the four `en` flags. -/
theorem statusByte_toNat (a : Apu) : (statusByte a).toNat = a.power.toNat * 128 + 0x70
    + a.ch4.en.toNat * 8 + a.ch3.en.toNat * 4 + a.ch2.en.toNat * 2 + a.ch1.en.toNat := by
  have table : ∀ p e4 e3 e2 e1 : Bool, (BitVec.ofBool p ++ 0b111#3 ++ BitVec.ofBool e4
      ++ BitVec.ofBool e3 ++ BitVec.ofBool e2 ++ BitVec.ofBool e1).toNat =
      p.toNat * 128 + 0x70 + e4.toNat * 8 + e3.toNat * 4 + e2.toNat * 2 + e1.toNat := by decide
  exact table ..

/-! ### What an operation answers -/

/-- A word of kind `SAMPLE` or `RD` answers and does nothing else. -/
theorem runWord_answers (P : Params) {w : OpWord} (h : opKind w = 1#2 ∨ opKind w = 2#2) :
    ∃ f, ∀ s, runWord P w s = answers f s := by
  have ne : (1#2 : BitVec 2) ≠ 0#2 ∧ (2#2 : BitVec 2) ≠ 0#2 ∧ (2#2 : BitVec 2) ≠ 1#2 := by decide
  rcases h with h | h
  · exact ⟨_, fun s => by rw [runWord, h, if_neg ne.1, if_pos rfl]⟩
  · exact ⟨_, fun s => by rw [runWord, h, if_neg ne.2.1, if_neg ne.2.2, if_pos rfl]⟩

/-- A word of kind `TICK` or `WR` returns nothing. -/
theorem runWord_changes (P : Params) {w : OpWord} (h : opKind w = 0#2 ∨ opKind w = 3#2) :
    ∃ f, ∀ s, runWord P w s = changes f s := by
  have ne : (3#2 : BitVec 2) ≠ 0#2 ∧ (3#2 : BitVec 2) ≠ 1#2 ∧ (3#2 : BitVec 2) ≠ 2#2 := by decide
  rcases h with h | h
  · exact ⟨_, fun s => by rw [runWord, if_pos h]⟩
  · exact ⟨_, fun s => by rw [runWord, h, if_neg ne.1, if_neg ne.2.1, if_neg ne.2.2]⟩

/-- The mask of NR14 hides the bits that the sweep writes back. -/
theorem nr14_masked {x y : Byte} (h : x.toNat / 8 = y.toNat / 8) : x ||| 0xBF#8 = y ||| 0xBF#8 := by
  apply BitVec.eq_of_getLsbD_eq
  intro i _
  rw [BitVec.getLsbD_or, BitVec.getLsbD_or]
  by_cases low : i < 3
  · have hidden : ∀ j < 3, (0xBF#8).getLsbD j = true := by decide
    rw [hidden i low, Bool.or_true, Bool.or_true]
  · have above : ∀ b : Byte, b.getLsbD i = (b.toNat / 2 ^ 3).testBit (i - 3) := fun b => by
      rw [Nat.testBit_div_two_pow, Nat.sub_add_cancel (Nat.le_of_not_lt low)]; rfl
    rw [above x, above y]
    exact congrArg (fun n => n.testBit (i - 3) || (0xBF#8).getLsbD i) h

/-- A read sees the register surface alone (rule R65). -/
theorem busRead_surface {a b : Apu} (en : ∀ c, enabled c b = enabled c a) (power : b.power = a.power)
    (mem : b.mem = a.mem) (regs : ∀ n : Reg, n ≠ .nr13 → n ≠ .nr14 → b.regs.get n = a.regs.get n)
    (nr14 : b.regs.nr14.toNat / 8 = a.regs.nr14.toNat / 8) (addr : Addr) :
    busRead readMask addr b = busRead readMask addr a := by
  have status : statusByte b = statusByte a := by
    apply BitVec.eq_of_toNat_eq
    rw [statusByte_toNat, statusByte_toNat, power, show b.ch1.en = a.ch1.en from en .ch1,
      show b.ch2.en = a.ch2.en from en .ch2, show b.ch3.en = a.ch3.en from en .ch3,
      show b.ch4.en = a.ch4.en from en .ch4]
  have byte : ∀ n, readReg readMask n b.regs = readReg readMask n a.regs := fun n => by
    by_cases h13 : n = .nr13
    · subst h13
      rw [readReg_hidden rfl, readReg_hidden rfl]
    · by_cases h14 : n = .nr14
      · subst h14
        exact nr14_masked nr14
      · rw [readReg, readReg, regs n h13 h14]
  unfold busRead
  rw [status, mem]
  split
  · rfl
  · split
    · exact byte _
    · rfl

/-! ### The outputs -/

@[simp] theorem out_ch3 (t : DutyTable) (a : Apu) : out t .ch3 a = waveOut a := rfl

theorem waveSample_le (m : Memory) (k : Nat) : waveSample m k ≤ 15 := by
  unfold waveSample
  split
  · exact Nat.le_of_lt_succ (bitField_lt ..)
  · exact Nat.le_of_lt_succ (bitField_lt ..)

theorem waveVolume_le (code sample : Nat) : waveVolume code sample ≤ sample := by
  unfold waveVolume
  split
  · exact Nat.zero_le _
  · exact Nat.shiftRight_le ..

theorem waveOut_le (a : Apu) : waveOut a ≤ 15 := by
  unfold waveOut
  split
  · exact (waveVolume_le ..).trans (waveSample_le ..)
  · exact Nat.zero_le _

/-- The sample of the wave table at a phase whose byte is `b`: the high nibble first. -/
theorem waveSample_eq {m : Memory} {k : Nat} {b : Byte} (h : m.read (0xFF30 + k / 2) = some b) :
    waveSample m k = if k % 2 = 0 then b.toNat / 16 else b.toNat % 16 := by
  have high : bitField b 4 4 = b.toNat / 16 := envVolume_eq b
  have low : bitField b 0 4 = b.toNat % 16 := by simp [bitField]
  rw [waveSample, waveByte_eq h, high, low]

/-- The volume code shifts the sample right by 0, 1 or 2. -/
theorem waveVolume_eq {code : Nat} (h : code < 4) (sample : Nat) : waveVolume code sample =
    if code = 0 then 0 else if code = 1 then sample else if code = 2 then sample / 2
    else sample / 4 := by
  rw [waveVolume, Nat.shiftRight_eq_div_pow]
  interval_cases code
  · rfl
  · exact Nat.div_one sample
  · rfl
  · rfl

theorem out_le {a : Apu} (h : a.Inv) (t : DutyTable) (c : Channel) : out t c a ≤ 15 := by
  cases c with
  | ch1 => exact (pulseOut_le_vol ..).trans h.ch1.vol
  | ch2 => exact (pulseOut_le_vol ..).trans h.ch2.vol
  | ch3 => exact waveOut_le a
  | ch4 => exact (noiseOut_le_vol _).trans h.ch4.vol

/-! ### The samples -/

theorem routed_le (on : Bool) (x : Nat) : routed on x ≤ x := by
  unfold routed
  split
  · exact le_rfl
  · exact Nat.zero_le _

/-- Four outputs of at most 15, times a side volume of at most 8. -/
theorem samplePair_le {a : Apu} (h : a.Inv) (t : DutyTable) :
    (samplePair t a).1 ≤ 480 ∧ (samplePair t a).2 ≤ 480 := by
  have term (on : Bool) (c : Channel) : routed on (out t c a) ≤ 15 :=
    (routed_le _ _).trans (out_le h t c)
  have left : busLeft t a ≤ 60 := by
    have := term (panLeft .ch1 a.regs) .ch1
    have := term (panLeft .ch2 a.regs) .ch2
    have := term (panLeft .ch3 a.regs) .ch3
    have := term (panLeft .ch4 a.regs) .ch4
    unfold busLeft; omega
  have right : busRight t a ≤ 60 := by
    have := term (panRight .ch1 a.regs) .ch1
    have := term (panRight .ch2 a.regs) .ch2
    have := term (panRight .ch3 a.regs) .ch3
    have := term (panRight .ch4 a.regs) .ch4
    unfold busRight; omega
  have volL : volLeft a.regs + 1 ≤ 8 := bitField_lt ..
  have volR : volRight a.regs + 1 ≤ 8 := bitField_lt ..
  cases on : a.power
  · rw [samplePair_off t on]
    exact ⟨Nat.zero_le _, Nat.zero_le _⟩
  · rw [samplePair, on, if_pos rfl]
    exact ⟨Nat.mul_le_mul left volL, Nat.mul_le_mul right volR⟩

/-- The model's answer is the mix the spec writes out (rule R430). -/
theorem sampleAnswer_eq (t : DutyTable) (a : Apu) : sampleAnswer t a = sampleOf t a := by
  cases on : a.power
  · rw [sampleAnswer, samplePair_off t on, sampleOf, if_pos on]
  · rw [sampleAnswer, samplePair, on, if_pos rfl, sampleOf, on, if_neg Bool.true_eq_false.mp,
      volLeft_eq, volRight_eq]
    rfl

/-- A natural number divided by one at least as big lies in [0, 1]. -/
theorem div_mem_unit {n h : Nat} (le : n ≤ h) :
    0 ≤ (n : Rat) / (h : Rat) ∧ (n : Rat) / (h : Rat) ≤ 1 :=
  ⟨by positivity, div_le_one_of_le₀ (by exact_mod_cast le) (Nat.cast_nonneg h)⟩

/-! ### The statements -/

/-- Settles O21: these words only answer, and `SAMPLE` looks at the APU alone. -/
theorem readsAndSamplesChangeNothing : Obligations.ReadsAndSamplesChangeNothing := by
  unfold Obligations.ReadsAndSamplesChangeNothing
  refine ⟨fun s w h => ?_, fun s t u w h hw hs => ?_⟩
  · obtain ⟨f, run⟩ := runWord_answers Params.spec h
    exact ⟨_, by rw [exec_decode, run, answers_eq]⟩
  · obtain ⟨f, run⟩ := runWord_answers Params.spec h
    rw [exec_decode, run, answers_eq] at hw
    cases hw
    cases hs
    exact ⟨_, rfl, rfl⟩

/-- Settles O22: every read is a bus read, which sees the surface alone; the other two kinds change
the APU and answer nothing. -/
theorem readsSeeOnlyTheRegisterSurface : Obligations.ReadsSeeOnlyTheRegisterSurface := by
  unfold Obligations.ReadsSeeOnlyTheRegisterSurface
  refine ⟨fun s u w h en power mem regs nr14 => ?_, fun s w h => ?_⟩
  · have read (s : State) : exec (decode w) s =
        answers (fun x => .byte (busRead readMask (opAddr w) x)) s := by
      rw [← opWord_fields w, h, decode_readWord, exec_decodeRd, opAddr_opWord]
    refine ⟨_, (read s).trans (answers_eq _ s), (read u).trans ?_⟩
    exact answers_byte (busRead_surface en power mem regs nr14 _)
  · obtain ⟨f, run⟩ := runWord_changes Params.spec h
    exact ⟨_, by rw [exec_decode, run, changes_eq], rfl⟩

/-- Settles O31: the stored byte and its mask, which is empty or full for two of them each. -/
theorem pulseRegisterReads : Obligations.PulseRegisterReads := by
  unfold Obligations.PulseRegisterReads
  intro s
  exact ⟨rfl, rfl, answers_open .nr12 rfl s, answers_hidden .nr13 rfl s, rfl, rfl,
    answers_open .nr22 rfl s, answers_hidden .nr23 rfl s, rfl⟩

/-- Settles O32: as for channels 1 and 2; power-off has cleared NR50 and NR51. -/
theorem waveNoiseControlReads : Obligations.WaveNoiseControlReads := by
  unfold Obligations.WaveNoiseControlReads
  refine ⟨fun s => ⟨rfl, answers_hidden .nr31 rfl s, rfl, answers_hidden .nr33 rfl s, rfl,
    answers_hidden .nr41 rfl s, answers_open .nr42 rfl s, answers_open .nr43 rfl s, rfl,
    answers_open .nr50 rfl s, answers_open .nr51 rfl s⟩, fun s t v h off => ?_⟩
  have run : changes (powerWrite v) s = .next t := off
  rw [changes_eq, powerWrite_off h] at run
  cases run
  exact ⟨answers_open .nr50 rfl _, answers_open .nr51 rfl _⟩

/-- Settles O33: the status byte is built from the live flags, bit by bit. -/
theorem statusReadShowsLiveFlags : Obligations.StatusReadShowsLiveFlags := by
  unfold Obligations.StatusReadShowsLiveFlags
  intro s
  exact ⟨statusByte s.apu, rfl, statusByte_toNat s.apu⟩

/-- Settles O35: all 16 addresses of a canonical wave RAM hold a byte. -/
theorem waveRamRead : Obligations.WaveRamRead := by
  unfold Obligations.WaveRamRead
  intro s k wf
  obtain ⟨b, hb⟩ := Memory.read_wave wf k.toNat k.isLt
  exact ⟨b, hb, answers_byte (f := fun a => waveByte a.mem k.toNat) (waveByte_eq hb)⟩

/-- Settles O36: the ten meanings are `writeNowhere` and `openBusAnswer`. -/
theorem unmappedAddressesAreInert : Obligations.UnmappedAddressesAreInert := by
  unfold Obligations.UnmappedAddressesAreInert
  intro s v k a
  exact ⟨rfl, rfl, rfl, rfl, rfl, rfl, rfl, rfl, rfl, rfl⟩

/-- Settles O52: an entry is a bit; the default rows are counted out. -/
theorem dutyFractions : Obligations.DutyFractions := by
  unfold Obligations.DutyFractions
  refine ⟨fun t d p => ?_, by decide⟩
  unfold dutyBit
  cases t (Fin.ofNat 4 d) (Fin.ofNat 8 p)
  · exact .inl rfl
  · exact .inr rfl

/-- Settles O53: the sample and the volume code as numbers of their bytes. -/
theorem waveOutput : Obligations.WaveOutput := by
  unfold Obligations.WaveOutput
  intro d a b h
  rw [out_ch3]
  by_cases off : a.ch3.en = false ∨ a.regs.nr30.getLsbD 7 = false
  · have silent : (a.ch3.en && waveDac a.regs.nr30) = false := Bool.and_eq_false_iff.mpr off
    rw [if_pos off, waveOut, silent, if_neg Bool.false_ne_true]
  · have sounds : (a.ch3.en && waveDac a.regs.nr30) = true := by
      rw [← Bool.not_eq_false]
      exact fun e => off (Bool.and_eq_false_iff.mp e)
    rw [if_neg off, waveOut, sounds, if_pos rfl, volCode_eq, waveSample_eq h,
      waveVolume_eq (Nat.mod_lt _ (by decide))]

/-- Settles O55: both machines answer the model's mix, which is the spec's. -/
theorem sampleMixesTheChannels : Obligations.SampleMixesTheChannels := by
  unfold Obligations.SampleMixesTheChannels
  refine ⟨fun s => ?_, fun P s rest h => ?_⟩
  · show answers (sampleAnswer dutyTable) s = _
    rw [answers_eq, sampleAnswer_eq]
  · rw [stepWith_op P h, runWord_sample, answers_eq, sampleAnswer_eq]
    rfl

/-- Settles O56: the frame is the quotient by definition; the bounds come from the invariant. -/
theorem sampleStaysInRange : Obligations.SampleStaysInRange := by
  unfold Obligations.SampleStaysInRange
  intro d a
  refine ⟨fun h => ⟨rfl, rfl⟩, (sampleAnswer_eq d a).symm, fun inv => ?_⟩
  obtain ⟨left, right⟩ := samplePair_le inv d
  refine ⟨out_le inv d, left, right, fun h headroom => ?_⟩
  obtain ⟨l0, l1⟩ := div_mem_unit (left.trans headroom)
  obtain ⟨r0, r1⟩ := div_mem_unit (right.trans headroom)
  exact ⟨l0, l1, r0, r1⟩

end Sys2Proof.Machine

/-!
PROOFS. `TICK` (rules R302 to R424): what the frame sequencer does at each of its steps, with numbers
of the stored bytes; what it leaves to the timers; and what many cycles add up to (rules R302, R342,
R402, R426).
-/

namespace Sys2Proof.Machine

open Sys2Proof.Claim

/-! ### Length counters, envelopes, timers -/

theorem lengthSteps_eq (a : Apu) : lengthSteps a = afterLength a := by
  have parts : lengthSteps a =
      { a with
        ch1 := { a.ch1 with
          len := (lengthDown (a.regs.nr14.getLsbD 6) a.ch1.len a.ch1.en).1
          en := (lengthDown (a.regs.nr14.getLsbD 6) a.ch1.len a.ch1.en).2 }
        ch2 := { a.ch2 with
          len := (lengthDown (a.regs.nr24.getLsbD 6) a.ch2.len a.ch2.en).1
          en := (lengthDown (a.regs.nr24.getLsbD 6) a.ch2.len a.ch2.en).2 }
        ch3 := { a.ch3 with
          len := (lengthDown (a.regs.nr34.getLsbD 6) a.ch3.len a.ch3.en).1
          en := (lengthDown (a.regs.nr34.getLsbD 6) a.ch3.len a.ch3.en).2 }
        ch4 := { a.ch4 with
          len := (lengthDown (a.regs.nr44.getLsbD 6) a.ch4.len a.ch4.en).1
          en := (lengthDown (a.regs.nr44.getLsbD 6) a.ch4.len a.ch4.en).2 } } := rfl
  rw [parts, lengthDown_eq, lengthDown_eq, lengthDown_eq, lengthDown_eq]
  rfl

theorem volumeStep_eq (up : Bool) (vol : Nat) :
    volumeStep up vol = if up then min (vol + 1) 15 else vol - 1 := by
  cases up
  · show max vol 1 - 1 = vol - 1
    omega
  · rfl

/-- Everything an envelope step can do (rule R312). -/
theorem envelopeDown_eq (b : Byte) (et vol : Nat) :
    envelopeDown b et vol = (envTimer b et, envVol b et vol) := by
  have down : (if et > 0 then et - 1 else et) = et - 1 := by split <;> omega
  unfold envelopeDown envTimer envVol
  rw [envPeriod_eq, volumeStep_eq, down]
  by_cases still : b.toNat % 8 = 0
  · rw [if_pos still, if_pos still, if_pos (.inl still)]
  · rw [if_neg still, if_neg still]
    by_cases expires : et ≤ 1
    · have moves : ¬(b.toNat % 8 = 0 ∨ 1 < et) := by omega
      rw [if_pos expires, if_pos (by omega), if_neg moves]
      rfl
    · have stays : b.toNat % 8 = 0 ∨ 1 < et := by omega
      rw [if_neg expires, if_neg (by omega), if_pos stays]

/-- The timers of the four channels, each on its own. -/
theorem timerSteps_eq (a : Apu) : timerSteps a =
    { a with
      ch1 := pulseTimer (reload .ch1 a.regs) a.ch1
      ch2 := pulseTimer (reload .ch2 a.regs) a.ch2
      ch3 := waveTimer (reload .ch3 a.regs) a.ch3
      ch4 := noiseTimer (noiseNarrow a.regs) (reload .ch4 a.regs) a.ch4 } := rfl

/-! ### The frame sequencer step by step -/

/-- The four kinds of sequencer step (rule R404). -/
theorem fss_cases : ∀ k : Fin 8, k.val ∈ [0, 4] ∨ k.val ∈ [1, 3, 5] ∨ k.val ∈ [2, 6] ∨ k.val ∈ [7] := by
  decide

section
variable {k : Fin 8} (a : Apu)

theorem fsStep_length (h : k.val ∈ [0, 4]) : fsStep k a = afterLength a := by
  have ks : ∀ k : Fin 8, k.val ∈ [0, 4] → k = 0 ∨ k = 4 := by decide
  rcases ks k h with rfl | rfl
  · exact lengthSteps_eq a
  · exact lengthSteps_eq a

theorem fsStep_idle (h : k.val ∈ [1, 3, 5]) : fsStep k a = a := by
  have ks : ∀ k : Fin 8, k.val ∈ [1, 3, 5] → k = 1 ∨ k = 3 ∨ k = 5 := by decide
  rcases ks k h with rfl | rfl | rfl
  · rfl
  · rfl
  · rfl

theorem fsStep_sweep (h : k.val ∈ [2, 6]) : fsStep k a = sweepStep (afterLength a) := by
  have ks : ∀ k : Fin 8, k.val ∈ [2, 6] → k = 2 ∨ k = 6 := by decide
  rw [← lengthSteps_eq]
  rcases ks k h with rfl | rfl
  · rfl
  · rfl

theorem fsStep_envelope (h : k.val ∈ [7]) : fsStep k a = envelopeSteps a := by
  have ks : ∀ k : Fin 8, k.val ∈ [7] → k = 7 := by decide
  rw [ks k h]; rfl

end

theorem fsTick_between {a : Apu} (h : a.fs.fst ≠ 8191) :
    fsTick a = a.withFs { a.fs with fst := a.fs.fst + 1 } :=
  if_neg fun e => h (Nat.succ.inj e)

theorem fsTick_at {a : Apu} (h : a.fs.fst = 8191) :
    fsTick a = (fsStep a.fs.fss a).withFs { fst := 0, fss := a.fs.fss + 1 } :=
  if_pos (by rw [h]; rfl)

theorem tick_on {a : Apu} (on : a.power = true) : tick a = timerSteps (fsTick a) := if_pos on

theorem tick_at {a : Apu} {l : List Nat} (h : AtStep l a) : tick a =
    timerSteps ((fsStep a.fs.fss a).withFs { fst := 0, fss := a.fs.fss + 1 }) := by
  obtain ⟨on, last, -⟩ := h
  rw [tick_on on, fsTick_at last]

/-- Everything a `TICK` can do (rules R402, R404, R424). -/
theorem tick_cases (a : Apu) :
    (a.power = false ∧ tick a = a) ∨
    (a.power = true ∧ a.fs.fst ≠ 8191 ∧
      tick a = timerSteps (a.withFs { a.fs with fst := a.fs.fst + 1 })) ∨
    (AtStep [0, 4] a ∧
      tick a = timerSteps ((afterLength a).withFs { fst := 0, fss := a.fs.fss + 1 })) ∨
    (AtStep [1, 3, 5] a ∧ tick a = timerSteps (a.withFs { fst := 0, fss := a.fs.fss + 1 })) ∨
    (AtStep [2, 6] a ∧
      tick a = timerSteps ((sweepStep (afterLength a)).withFs { fst := 0, fss := a.fs.fss + 1 })) ∨
    (AtStep [7] a ∧
      tick a = timerSteps ((envelopeSteps a).withFs { fst := 0, fss := a.fs.fss + 1 })) := by
  cases on : a.power
  · exact .inl ⟨rfl, tick_off on⟩
  by_cases last : a.fs.fst = 8191
  · rcases fss_cases a.fs.fss with h | h | h | h
    · have at_h : AtStep [0, 4] a := ⟨on, last, h⟩
      exact .inr (.inr (.inl ⟨at_h, by rw [tick_at at_h, fsStep_length a h]⟩))
    · have at_h : AtStep [1, 3, 5] a := ⟨on, last, h⟩
      exact .inr (.inr (.inr (.inl ⟨at_h, by rw [tick_at at_h, fsStep_idle a h]⟩)))
    · have at_h : AtStep [2, 6] a := ⟨on, last, h⟩
      exact .inr (.inr (.inr (.inr (.inl ⟨at_h, by rw [tick_at at_h, fsStep_sweep a h]⟩))))
    · have at_h : AtStep [7] a := ⟨on, last, h⟩
      exact .inr (.inr (.inr (.inr (.inr ⟨at_h, by rw [tick_at at_h, fsStep_envelope a h]⟩))))
  · exact .inr (.inl ⟨rfl, last, by rw [tick_on on, fsTick_between last]⟩)

/-! ### The sweep step -/

theorem sweepNew_eq (a : Apu) : sweepNew a.regs a.sweep.shadow = sweepCandidate a := by
  rw [sweepNew, sweepShift_eq, Nat.shiftRight_eq_div_pow]; rfl

/-- The byte of NR14 that the write-back leaves: bits 7..3 kept, bits 2..0 those of `m`. -/
theorem sweepHigh_eq (b : Byte) {m : Nat} (h : m < 8) :
    b.extractLsb' 3 5 ++ BitVec.ofNat 3 m = BitVec.ofNat 8 (b.toNat / 8 * 8 + m) := by
  have := b.isLt
  have low : (BitVec.ofNat 3 m).toNat = m := Nat.mod_eq_of_lt h
  have high : (b.extractLsb' 3 5).toNat = b.toNat / 8 := by
    rw [BitVec.extractLsb'_toNat, Nat.shiftRight_eq_div_pow]; omega
  apply BitVec.eq_of_toNat_eq
  rw [BitVec.toNat_append, low, high, ← Nat.shiftLeft_add_eq_or_of_lt h, Nat.shiftLeft_eq,
    BitVec.toNat_ofNat]
  omega

theorem sweepWriteBack_eq (a : Apu) {m : Nat} (h : m ≤ 2047) : sweepWriteBack m a =
    { a with
      sweep := { a.sweep with shadow := m }
      regs := { a.regs with
        nr13 := BitVec.ofNat 8 (m % 256)
        nr14 := BitVec.ofNat 8 (a.regs.nr14.toNat / 8 * 8 + m / 256) } } := by
  have low : BitVec.ofNat 8 (m % 256) = BitVec.ofNat 8 m := by
    apply BitVec.eq_of_toNat_eq
    rw [BitVec.toNat_ofNat, BitVec.toNat_ofNat, Nat.mod_mod]
  rw [← sweepHigh_eq _ (show m / 256 < 8 by omega), low]
  rfl

/-! ### What the frame sequencer leaves to the timers -/

/-- `b` has the frequency timers and phases of `a` and, but for NR13 and NR14, its register bytes. -/
structure KeepsTiming (a b : Apu) : Prop where
  ft1 : b.ch1.ft = a.ch1.ft
  ph1 : b.ch1.ph = a.ch1.ph
  ft2 : b.ch2.ft = a.ch2.ft
  ph2 : b.ch2.ph = a.ch2.ph
  ft3 : b.ch3.ft = a.ch3.ft
  ph3 : b.ch3.ph = a.ch3.ph
  regs : ∀ n, n ≠ .nr13 → n ≠ .nr14 → b.regs.get n = a.regs.get n

theorem afterLength_keepsTiming (a : Apu) : KeepsTiming a (afterLength a) :=
  ⟨rfl, rfl, rfl, rfl, rfl, rfl, fun _ _ _ => rfl⟩

theorem sweepStep_keepsTiming (a : Apu) : KeepsTiming a (sweepStep a) := by
  obtain ⟨-, -, ch2, ch3, -, -, ch1, regs⟩ := sweepStep_frame a
  rcases ch1 with ch1 | ch1
  · exact ⟨by rw [ch1], by rw [ch1], by rw [ch2], by rw [ch2], by rw [ch3], by rw [ch3], regs⟩
  · exact ⟨by rw [ch1], by rw [ch1], by rw [ch2], by rw [ch2], by rw [ch3], by rw [ch3], regs⟩

theorem KeepsTiming.trans {a b c : Apu} (h : KeepsTiming a b) (k : KeepsTiming b c) :
    KeepsTiming a c :=
  ⟨k.ft1.trans h.ft1, k.ph1.trans h.ph1, k.ft2.trans h.ft2, k.ph2.trans h.ph2, k.ft3.trans h.ft3,
    k.ph3.trans h.ph3, fun n h13 h14 => (k.regs n h13 h14).trans (h.regs n h13 h14)⟩

theorem fsStep_keepsTiming (k : Fin 8) (a : Apu) : KeepsTiming a (fsStep k a) := by
  rcases fss_cases k with h | h | h | h
  · rw [fsStep_length a h]; exact afterLength_keepsTiming a
  · rw [fsStep_idle a h]; exact ⟨rfl, rfl, rfl, rfl, rfl, rfl, fun _ _ _ => rfl⟩
  · rw [fsStep_sweep a h]; exact (afterLength_keepsTiming a).trans (sweepStep_keepsTiming _)
  · rw [fsStep_envelope a h]; exact ⟨rfl, rfl, rfl, rfl, rfl, rfl, fun _ _ _ => rfl⟩

theorem fsTick_keepsTiming (a : Apu) : KeepsTiming a (fsTick a) := by
  by_cases last : a.fs.fst = 8191
  · rw [fsTick_at last]
    obtain ⟨ft1, ph1, ft2, ph2, ft3, ph3, regs⟩ := fsStep_keepsTiming a.fs.fss a
    exact ⟨ft1, ph1, ft2, ph2, ft3, ph3, regs⟩
  · rw [fsTick_between last]
    exact ⟨rfl, rfl, rfl, rfl, rfl, rfl, fun _ _ _ => rfl⟩

/-- With the sweep disabled the frame sequencer keeps every register byte, and the sweep disabled. -/
theorem fsTick_sweep_off {a : Apu} (h : a.sweep.swen = false) :
    (fsTick a).regs = a.regs ∧ (fsTick a).sweep.swen = false := by
  have step : (fsStep a.fs.fss a).regs = a.regs ∧ (fsStep a.fs.fss a).sweep.swen = false := by
    rcases fss_cases a.fs.fss with k | k | k | k
    · rw [fsStep_length a k]; exact ⟨rfl, h⟩
    · rw [fsStep_idle a k]; exact ⟨rfl, h⟩
    · rw [fsStep_sweep a k, sweepStep, if_pos (show (afterLength a).sweep.swen = false from h)]
      exact ⟨rfl, h⟩
    · rw [fsStep_envelope a k]; exact ⟨rfl, h⟩
  by_cases last : a.fs.fst = 8191
  · rw [fsTick_at last]; exact step
  · rw [fsTick_between last]; exact ⟨rfl, h⟩

/-! ### Many cycles -/

theorem advance_power {a : Apu} (on : a.power = true) (n : Nat) : (advance n a).power = true := by
  induction n with
  | zero => exact on
  | succ n ih => rw [advance_succ, tick_power, ih]

theorem tick_fs {a : Apu} (on : a.power = true) : (tick a).fs =
    if a.fs.fst = 8191 then { fst := 0, fss := a.fs.fss + 1 }
    else { a.fs with fst := a.fs.fst + 1 } := by
  rw [tick_on on, timerSteps_fs]
  by_cases last : a.fs.fst = 8191
  · rw [if_pos last, fsTick_at last]; rfl
  · rw [if_neg last, fsTick_between last]; rfl

/-- A timer that reloads with `N` when it expires, and a phase modulo `M` that advances then. -/
theorem countdown {N M : Nat} (hN : 1 ≤ N) {ft ph : Nat → Nat} (fresh : ft 0 = N) (start : ph 0 < M)
    (cycle : ∀ k, ft (k + 1) = (if ft k ≤ 1 then N else ft k - 1) ∧
      ph (k + 1) = (if ft k ≤ 1 then (ph k + 1) % M else ph k)) (k : Nat) :
    ft k = N - k % N ∧ ph k = (ph 0 + k / N) % M := by
  induction k with
  | zero => exact ⟨by rw [fresh, Nat.zero_mod]; rfl, by rw [Nat.zero_div, Nat.add_zero, Nat.mod_eq_of_lt start]⟩
  | succ k ih =>
    obtain ⟨left, phases⟩ := ih
    have split : k + 1 = k % N + 1 + N * (k / N) := by have := Nat.mod_add_div k N; omega
    have rest := Nat.mod_lt k hN
    have hmod : (k + 1) % N = (k % N + 1) % N := by
      conv_lhs => rw [split, Nat.add_mul_mod_self_left]
    have hdiv : (k + 1) / N = (k % N + 1) / N + k / N := by
      conv_lhs => rw [split, Nat.add_mul_div_left _ _ hN]
    rw [(cycle k).1, (cycle k).2, hmod, hdiv, left, phases]
    by_cases last : k % N + 1 = N
    · rw [if_pos (by omega), if_pos (by omega), last, Nat.mod_self, Nat.div_self hN, Nat.mod_add_mod,
        Nat.add_assoc, Nat.add_comm (k / N)]
      exact ⟨rfl, rfl⟩
    · have inside : k % N + 1 < N := by omega
      rw [if_neg (by omega), if_neg (by omega), Nat.mod_eq_of_lt inside, Nat.div_eq_of_lt inside,
        Nat.zero_add]
      exact ⟨by omega, rfl⟩

/-- The timer and phase of a pulse channel after one cycle. -/
theorem pulseTimer_ft_ph (full : Nat) (p : Pulse) :
    (pulseTimer full p).ft = (if p.ft ≤ 1 then full else p.ft - 1) ∧
    (pulseTimer full p).ph.val = (if p.ft ≤ 1 then (p.ph.val + 1) % 8 else p.ph.val) := by
  rw [pulseTimer_eq]
  split
  · exact ⟨rfl, Fin.val_add ..⟩
  · exact ⟨rfl, rfl⟩

/-- The timer and phase of the wave channel after one cycle. -/
theorem waveTimer_ft_ph (full : Nat) (w : Wave) :
    (waveTimer full w).ft = (if w.ft ≤ 1 then full else w.ft - 1) ∧
    (waveTimer full w).ph.val = (if w.ft ≤ 1 then (w.ph.val + 1) % 32 else w.ph.val) := by
  rw [waveTimer_eq]
  split
  · exact ⟨rfl, Fin.val_add ..⟩
  · exact ⟨rfl, rfl⟩

/-- Channels 2 and 3 reload with what they would before the frame sequencer ran. -/
theorem KeepsTiming.reload {a b : Apu} (h : KeepsTiming a b) :
    reload .ch2 b.regs = reload .ch2 a.regs ∧ reload .ch3 b.regs = reload .ch3 a.regs := by
  have nr23 : b.regs.nr23 = a.regs.nr23 := h.regs .nr23 nofun nofun
  have nr24 : b.regs.nr24 = a.regs.nr24 := h.regs .nr24 nofun nofun
  have nr33 : b.regs.nr33 = a.regs.nr33 := h.regs .nr33 nofun nofun
  have nr34 : b.regs.nr34 = a.regs.nr34 := h.regs .nr34 nofun nofun
  constructor
  · rw [reload_ch2_eq, reload_ch2_eq, nr23, nr24]
  · rw [reload_ch3_eq, reload_ch3_eq, nr33, nr34]

section
variable {a : Apu} (on : a.power = true)
include on

theorem tick_timing1 (off : a.sweep.swen = false) :
    (tick a).ch1.ft = (if a.ch1.ft ≤ 1 then reload .ch1 a.regs else a.ch1.ft - 1) ∧
    (tick a).ch1.ph.val = (if a.ch1.ft ≤ 1 then (a.ch1.ph.val + 1) % 8 else a.ch1.ph.val) := by
  have keeps := fsTick_keepsTiming a
  rw [tick_on on, ← keeps.ft1, ← keeps.ph1, ← (fsTick_sweep_off off).1]
  exact pulseTimer_ft_ph ..

theorem tick_timing2 :
    (tick a).ch2.ft = (if a.ch2.ft ≤ 1 then reload .ch2 a.regs else a.ch2.ft - 1) ∧
    (tick a).ch2.ph.val = (if a.ch2.ft ≤ 1 then (a.ch2.ph.val + 1) % 8 else a.ch2.ph.val) := by
  have keeps := fsTick_keepsTiming a
  rw [tick_on on, ← keeps.ft2, ← keeps.ph2, ← keeps.reload.1]
  exact pulseTimer_ft_ph ..

theorem tick_timing3 :
    (tick a).ch3.ft = (if a.ch3.ft ≤ 1 then reload .ch3 a.regs else a.ch3.ft - 1) ∧
    (tick a).ch3.ph.val = (if a.ch3.ft ≤ 1 then (a.ch3.ph.val + 1) % 32 else a.ch3.ph.val) := by
  have keeps := fsTick_keepsTiming a
  rw [tick_on on, ← keeps.ft3, ← keeps.ph3, ← keeps.reload.2]
  exact waveTimer_ft_ph ..

/-- No cycle changes the reloads of channels 2 and 3. -/
theorem advance_reload (k : Nat) :
    reload .ch2 (advance k a).regs = reload .ch2 a.regs ∧
    reload .ch3 (advance k a).regs = reload .ch3 a.regs := by
  induction k with
  | zero => exact ⟨rfl, rfl⟩
  | succ k ih =>
    obtain ⟨ch2, ch3⟩ := (fsTick_keepsTiming (advance k a)).reload
    rw [advance_succ, tick_on (advance_power on k), timerSteps_regs]
    exact ⟨ch2.trans ih.1, ch3.trans ih.2⟩

/-- While the sweep is disabled it stays so, and no cycle changes a register byte. -/
theorem advance_sweep_off (off : a.sweep.swen = false) (k : Nat) :
    (advance k a).sweep.swen = false ∧ (advance k a).regs = a.regs := by
  induction k with
  | zero => exact ⟨off, rfl⟩
  | succ k ih =>
    obtain ⟨regs, swen⟩ := fsTick_sweep_off ih.1
    rw [advance_succ, tick_on (advance_power on k), timerSteps_sweep, timerSteps_regs]
    exact ⟨swen, regs.trans ih.2⟩

end

/-! ### Every timer after a cycle -/

theorem pulseTimer_pos {full : Nat} (h : 1 ≤ full) (p : Pulse) : 1 ≤ (pulseTimer full p).ft := by
  rw [(pulseTimer_ft_ph full p).1]
  split <;> omega

theorem waveTimer_pos {full : Nat} (h : 1 ≤ full) (w : Wave) : 1 ≤ (waveTimer full w).ft := by
  rw [(waveTimer_ft_ph full w).1]
  split <;> omega

theorem noiseTimer_pos {full : Nat} (h : 1 ≤ full) (narrow : Bool) (n : Noise) :
    1 ≤ (noiseTimer narrow full n).ft := by
  rw [noiseTimer_eq]
  split
  · exact h
  · dsimp only; omega

/-- A reload is never 0. -/
theorem reload_pos (c : Channel) (r : Regs) : 1 ≤ reload c r := by
  cases c with
  | ch1 => exact Nat.le_of_lt (Nat.lt_of_lt_of_le (by decide) (reload_ch1_range r).1)
  | ch2 => exact Nat.le_of_lt (Nat.lt_of_lt_of_le (by decide) (reload_ch2_range r).1)
  | ch3 => exact Nat.le_of_lt (Nat.lt_of_lt_of_le (by decide) (reload_ch3_range r).1)
  | ch4 => exact Nat.le_of_lt (Nat.lt_of_lt_of_le (by decide) (reload_ch4_range r).1)

/-! ### The statements: one cycle -/

/-- Settles O37: the four timers, with their reloads as numbers of the stored bytes. -/
theorem timersCountDownAndReload : Obligations.TimersCountDownAndReload := by
  unfold Obligations.TimersCountDownAndReload
  intro a
  rw [timerSteps_eq, pulseTimer_eq, pulseTimer_eq, waveTimer_eq, noiseTimer_eq, reload_ch1_eq,
    reload_ch2_eq, reload_ch3_eq, reload_ch4_eq_noisePeriod]
  rfl

/-- Settles O38: only the divider counts before the timers run. -/
theorem tickBetweenSequencerSteps : Obligations.TickBetweenSequencerSteps := by
  unfold Obligations.TickBetweenSequencerSteps
  intro s on between
  show changes tick s = _
  rw [changes_eq, tick_on on, fsTick_between between]
  rfl

/-- Settles O39: `FsStep` at these steps is the length steps, or nothing. -/
theorem tickAtLengthAndIdleSteps : Obligations.TickAtLengthAndIdleSteps := by
  unfold Obligations.TickAtLengthAndIdleSteps
  refine ⟨fun s h => ?_, fun s h => ?_⟩
  · show changes tick s = _
    rw [changes_eq, tick_at h, fsStep_length _ h.2.2]
    rfl
  · show changes tick s = _
    rw [changes_eq, tick_at h, fsStep_idle _ h.2.2]
    rfl

/-- Settles O40: `FsStep` at these steps is the length steps and then the sweep step. -/
theorem tickAtSweepSteps : Obligations.TickAtSweepSteps := by
  unfold Obligations.TickAtSweepSteps
  intro s h
  show changes tick s = _
  rw [changes_eq, tick_at h, fsStep_sweep _ h.2.2]
  rfl

/-- Settles O41: the step number wraps to 0, and each envelope step is its timer and its volume. -/
theorem tickAtTheEnvelopeStep : Obligations.TickAtTheEnvelopeStep := by
  unfold Obligations.TickAtTheEnvelopeStep
  intro s h
  have wraps : s.apu.fs.fss + 1 = 0 := by
    have ks : ∀ k : Fin 8, k.val ∈ [7] → k + 1 = 0 := by decide
    exact ks _ h.2.2
  have parts : envelopeSteps s.apu =
      { s.apu with
        ch1 := { s.apu.ch1 with
          et := (envelopeDown s.apu.regs.nr12 s.apu.ch1.et s.apu.ch1.vol).1
          vol := (envelopeDown s.apu.regs.nr12 s.apu.ch1.et s.apu.ch1.vol).2 }
        ch2 := { s.apu.ch2 with
          et := (envelopeDown s.apu.regs.nr22 s.apu.ch2.et s.apu.ch2.vol).1
          vol := (envelopeDown s.apu.regs.nr22 s.apu.ch2.et s.apu.ch2.vol).2 }
        ch4 := { s.apu.ch4 with
          et := (envelopeDown s.apu.regs.nr42 s.apu.ch4.et s.apu.ch4.vol).1
          vol := (envelopeDown s.apu.regs.nr42 s.apu.ch4.et s.apu.ch4.vol).2 } } := rfl
  show changes tick s = _
  rw [changes_eq, tick_at h, fsStep_envelope _ h.2.2, wraps, parts, envelopeDown_eq,
    envelopeDown_eq, envelopeDown_eq]
  rfl

/-- Settles O12: no sequencer step is due and every timer is 0, so each reloads from register bytes
that are 0. -/
theorem firstTickAfterReset : Obligations.FirstTickAfterReset := by
  unfold Obligations.FirstTickAfterReset
  intro init l r
  have seed : lfsrNext false 0x7FFF#15 = 0x3FFF#15 := by decide
  refine ⟨_, tickBetweenSequencerSteps _ rfl (Nat.zero_ne_add_one 8190), ?_⟩
  dsimp only
  rw [timersCountDownAndReload]
  simp [Apu.resetWith, Pulse.reset, Regs.reset, periodVal, noisePeriod, Config.lfsrSeed, seed]

/-- Settles O42: the five cases of `SweepStep` are the five clauses. -/
theorem sweepStepCases : Obligations.SweepStepCases := by
  unfold Obligations.SweepStepCases
  intro a
  have cases := sweepStep_cases a
  rw [sweepPeriod_eq, sweepNew_eq, sweepReload_eq] at cases
  rcases cases with ⟨off, e⟩ | ⟨on, two, e⟩ | ⟨on, one, zero, e⟩ | ⟨on, one, some, large, e⟩ |
    ⟨on, one, some, fits, e⟩ <;> rw [e]
  · simp [off]
  · refine ⟨by simp [on], fun _ _ => rfl, ?_, ?_, ?_⟩ <;> omega
  · refine ⟨by simp [on], by omega, fun _ _ _ => ?_, by omega, by omega⟩
    rw [if_pos zero]; rfl
  · refine ⟨by simp [on], by omega, by omega, fun _ _ _ _ => ?_, by omega⟩
    rw [if_neg (by omega)]; rfl
  · refine ⟨by simp [on], by omega, by omega, by omega, fun _ _ _ _ => ?_⟩
    rw [if_neg (by omega), sweepWriteBack_eq _ fits]; rfl

/-- Settles O58: a timer that expires takes a reload, which is not 0, and any other is above 1. -/
theorem reloadsAreNeverZero : Obligations.ReloadsAreNeverZero := by
  unfold Obligations.ReloadsAreNeverZero
  refine ⟨fun r => ?_, fun s on => ⟨_, rfl, ?_⟩⟩
  · exact ⟨(reload_ch1_range r).1, (reload_ch1_range r).2, (reload_ch2_range r).1,
      (reload_ch2_range r).2, (reload_ch3_range r).1, (reload_ch3_range r).2,
      (reload_ch4_range r).1, (reload_ch4_range r).2⟩
  · show 1 ≤ (tick s.apu).ch1.ft ∧ 1 ≤ (tick s.apu).ch2.ft ∧ 1 ≤ (tick s.apu).ch3.ft ∧
      1 ≤ (tick s.apu).ch4.ft
    rw [tick_on on, timerSteps_eq]
    exact ⟨pulseTimer_pos (reload_pos _ _) _, pulseTimer_pos (reload_pos _ _) _,
      waveTimer_pos (reload_pos _ _) _, noiseTimer_pos (reload_pos _ _) _ _⟩

/-! ### The statements: many cycles -/

/-- Settles O43, by induction on the cycles: one cycle moves the counter by one. -/
theorem sequencerCountsEveryCycle : Obligations.SequencerCountsEveryCycle := by
  unfold Obligations.SequencerCountsEveryCycle
  intro n a on start
  refine ⟨advance_power on n, ?_⟩
  induction n with
  | zero =>
    have := a.fs.fss.isLt
    refine ⟨start, ?_⟩
    show a.fs.fst + 8192 * a.fs.fss.val = _
    omega
  | succ n ih =>
    obtain ⟨below, count⟩ := ih
    have := (advance n a).fs.fss.isLt
    rw [advance_succ, tick_fs (advance_power on n)]
    split
    · next last =>
      have next : ((advance n a).fs.fss + 1).val = ((advance n a).fs.fss.val + 1) % 8 :=
        Fin.val_add ..
      dsimp only
      omega
    · dsimp only
      omega

/-- Settles O45: each timer is a countdown whose reload no cycle changes. -/
theorem phasesAdvanceOncePerReload : Obligations.PhasesAdvanceOncePerReload := by
  unfold Obligations.PhasesAdvanceOncePerReload
  intro k a on
  refine ⟨fun off fresh => ?_, fun fresh => ?_, fun fresh => ?_⟩
  · refine countdown (ft := fun k => (advance k a).ch1.ft)
      (ph := fun k => (advance k a).ch1.ph.val) (reload_pos _ _) fresh a.ch1.ph.isLt (fun k => ?_) k
    rw [advance_succ, ← (advance_sweep_off on off k).2]
    exact tick_timing1 (advance_power on k) (advance_sweep_off on off k).1
  · refine countdown (ft := fun k => (advance k a).ch2.ft)
      (ph := fun k => (advance k a).ch2.ph.val) (reload_pos _ _) fresh a.ch2.ph.isLt (fun k => ?_) k
    rw [advance_succ, ← (advance_reload on k).1]
    exact tick_timing2 (advance_power on k)
  · refine countdown (ft := fun k => (advance k a).ch3.ft)
      (ph := fun k => (advance k a).ch3.ph.val) (reload_pos _ _) fresh a.ch3.ph.isLt (fun k => ?_) k
    rw [advance_succ, ← (advance_reload on k).2]
    exact tick_timing3 (advance_power on k)

end Sys2Proof.Machine

/-!
PROOFS. The noise shift register over many steps (rules R382, R385). In wide mode the step is linear
over xor and bijective, and doubling the number of steps squares it, which gives the period 2^15 - 1
without running it; in narrow mode the low 7 bits are a register of their own.
-/

namespace Sys2Proof.Machine

open Function

/-! ### Wide mode: one step -/

/-- Bits 14..1 are found one place down, and bit 0 from the bit inserted at the top. -/
theorem lfsrNext_wide_injective : Injective (lfsrNext false) := by
  intro l m same
  have moved : ∀ j, j < 14 → l.getLsbD (j + 1) = m.getLsbD (j + 1) := fun j hj => by
    have := congrArg (BitVec.getLsbD · j) same
    simpa only [getLsbD_lfsrNext_wide, if_neg hj.ne] using this
  have top : (l.getLsbD 0 ^^ l.getLsbD 1) = (m.getLsbD 0 ^^ m.getLsbD 1) := by
    have := congrArg (BitVec.getLsbD · 14) same
    simpa only [getLsbD_lfsrNext_wide, if_pos, lfsrFeedback] using this
  apply BitVec.eq_of_getLsbD_eq
  rintro (_ | j) hj
  · have first : l.getLsbD 1 = m.getLsbD 1 := moved 0 (by decide)
    rw [first] at top
    exact Bool.xor_left_inj.mp top
  · exact moved j (by omega)

theorem lfsrNext_wide_surjective : Surjective (lfsrNext false) :=
  Finite.surjective_of_injective lfsrNext_wide_injective

theorem lfsrNext_wide_xor (l m : LfsrWord) :
    lfsrNext false (l ^^^ m) = lfsrNext false l ^^^ lfsrNext false m := by
  apply BitVec.eq_of_getLsbD_eq
  intro j _
  simp only [getLsbD_lfsrNext_wide, BitVec.getLsbD_xor, lfsrFeedback]
  split
  · rw [Bool.xor_assoc, Bool.xor_left_comm (m.getLsbD 0), ← Bool.xor_assoc]
  · rfl

theorem wide_iterate_xor (n : Nat) (l m : LfsrWord) :
    (lfsrNext false)^[n] (l ^^^ m) = (lfsrNext false)^[n] l ^^^ (lfsrNext false)^[n] m := by
  induction n generalizing l m with
  | zero => rfl
  | succ n ih => rw [iterate_succ_apply, lfsrNext_wide_xor, ih]; rfl

/-! ### Wide mode: the sequence of low bits -/

/-- The register shows the next 15 values of its bit 0. -/
theorem wide_bit (l : LfsrWord) {j : Nat} (hj : j < 15) (n : Nat) :
    ((lfsrNext false)^[n] l).getLsbD j = ((lfsrNext false)^[n + j] l).getLsbD 0 := by
  induction j generalizing n with
  | zero => rfl
  | succ j ih =>
    have moves := getLsbD_lfsrNext_wide ((lfsrNext false)^[n] l) j
    rw [if_neg (by omega), ← iterate_succ_apply' (lfsrNext false), ih (by omega)] at moves
    rw [← moves, Nat.succ_add_eq_add_succ]

/-- 15 steps are the sum of one step and none: the feedback polynomial is `x^15 + x + 1`. -/
theorem wide_iterate_15 (l : LfsrWord) : (lfsrNext false)^[15] l = lfsrNext false l ^^^ l := by
  apply BitVec.eq_of_getLsbD_eq
  intro j hj
  have inserted : ((lfsrNext false)^[15 + j] l).getLsbD 0 =
      (((lfsrNext false)^[j] l).getLsbD 0 ^^ ((lfsrNext false)^[j] l).getLsbD 1) := by
    have top := getLsbD_lfsrNext_wide ((lfsrNext false)^[j] l) 14
    rw [if_pos rfl, ← iterate_succ_apply' (lfsrNext false), wide_bit l (by decide)] at top
    rw [← lfsrFeedback, ← top, Nat.add_comm 15 j]
  have here := wide_bit l hj 0
  have next := wide_bit l hj 1
  have one := wide_bit l (show 1 < 15 by decide) j
  rw [Nat.zero_add] at here
  rw [Nat.add_comm 1 j] at next
  rw [wide_bit l hj, inserted, BitVec.getLsbD_xor, one, ← next, ← here, Bool.xor_comm]
  rfl

/-! ### Wide mode: jumps of a power of two -/

/-- `2 ^ k` wide steps. -/
def wideJump (k : Nat) (l : LfsrWord) : LfsrWord := (lfsrNext false)^[2 ^ k] l

theorem wideJump_succ (k : Nat) (l : LfsrWord) :
    wideJump (k + 1) l = wideJump k (wideJump k l) := by
  rw [wideJump, Nat.pow_succ, Nat.mul_two, iterate_add_apply]; rfl

theorem wideJump_xor (k : Nat) (l m : LfsrWord) :
    wideJump k (l ^^^ m) = wideJump k l ^^^ wideJump k m := wide_iterate_xor ..

theorem wideJump_comm (j k : Nat) (l : LfsrWord) :
    wideJump j (wideJump k l) = wideJump k (wideJump j l) := by
  simp only [wideJump, ← iterate_add_apply, Nat.add_comm]

theorem xor_xor_cancel (a b c : LfsrWord) : a ^^^ b ^^^ (b ^^^ c) = a ^^^ c := by
  rw [BitVec.xor_assoc, ← BitVec.xor_assoc b, BitVec.xor_self, BitVec.zero_xor]

/-- Squaring `x^16 = x^2 + x` again and again. -/
theorem wideJump_add_four (k : Nat) (l : LfsrWord) :
    wideJump (k + 4) l = wideJump (k + 1) l ^^^ wideJump k l := by
  induction k generalizing l with
  | zero =>
    show (lfsrNext false)^[1 + 15] l = lfsrNext false (lfsrNext false l) ^^^ lfsrNext false l
    rw [iterate_add_apply, wide_iterate_15]
    exact lfsrNext_wide_xor ..
  | succ k ih =>
    calc wideJump (k + 4 + 1) l
      _ = wideJump (k + 1) (wideJump (k + 1) l) ^^^ wideJump (k + 1) (wideJump k l) ^^^
          (wideJump k (wideJump (k + 1) l) ^^^ wideJump k (wideJump k l)) := by
        rw [wideJump_succ, ih, ih, wideJump_xor, wideJump_xor]
      _ = wideJump (k + 1 + 1) l ^^^ wideJump (k + 1) l := by
        rw [wideJump_comm k (k + 1), xor_xor_cancel, ← wideJump_succ, ← wideJump_succ]

theorem wideJump_add_eight (k : Nat) (l : LfsrWord) :
    wideJump (k + 8) l = wideJump (k + 2) l ^^^ wideJump k l := by
  calc wideJump (k + 4 + 4) l
    _ = wideJump (k + 1 + 4) l ^^^ wideJump (k + 4) l := wideJump_add_four (k + 4) l
    _ = _ := by rw [wideJump_add_four, wideJump_add_four, xor_xor_cancel]

/-- `2 ^ 15` steps are one step. -/
theorem wideJump_fifteen (l : LfsrWord) : wideJump 15 l = lfsrNext false l := by
  calc wideJump 15 l
    _ = wideJump 3 l ^^^ wideJump 1 l ^^^ (wideJump 4 l ^^^ wideJump 3 l) := by
      rw [wideJump_add_eight 7, wideJump_add_eight 1, wideJump_add_four 3]
    _ = wideJump 3 l ^^^ wideJump 1 l ^^^ (wideJump 1 l ^^^ (wideJump 0 l ^^^ wideJump 3 l)) := by
      rw [wideJump_add_four 0, BitVec.xor_assoc (wideJump 1 l)]
    _ = wideJump 0 l := by
      rw [xor_xor_cancel, BitVec.xor_comm, BitVec.xor_assoc, BitVec.xor_self, BitVec.xor_zero]

/-- Every register returns after `2 ^ 15 - 1` wide steps. -/
theorem wide_iterate_period (l : LfsrWord) : (lfsrNext false)^[32767] l = l := by
  apply lfsrNext_wide_injective
  rw [← iterate_succ_apply' (lfsrNext false)]
  exact wideJump_fifteen l

theorem wide_iterate_add_jump (n k : Nat) (l : LfsrWord) :
    (lfsrNext false)^[n + 2 ^ k] l = (lfsrNext false)^[n] (wideJump k l) := iterate_add_apply ..

/-! The three maximal divisors of 32767 are no periods of the seed; each is a few jumps. -/

theorem seed_not_periodic_4681 : (lfsrNext false)^[4681] 0x7FFF#15 ≠ 0x7FFF#15 := by
  have jump12 : wideJump 12 0x7FFF#15 = 0x2780#15 := by
    rw [wideJump_add_eight 4, wideJump_add_four 2, wideJump_add_four 0]; decide
  have jump9 : wideJump 9 0x2780#15 = 0x29C7#15 := by rw [wideJump_add_eight 1]; decide
  have jump6 : wideJump 6 0x29C7#15 = 0x30B5#15 := by rw [wideJump_add_four 2]; decide
  have jump3 : wideJump 3 0x30B5#15 = 0x77B0#15 := by decide
  rw [show 4681 = 585 + 2 ^ 12 from rfl, wide_iterate_add_jump, jump12,
    show 585 = 73 + 2 ^ 9 from rfl, wide_iterate_add_jump, jump9,
    show 73 = 9 + 2 ^ 6 from rfl, wide_iterate_add_jump, jump6,
    show 9 = 1 + 2 ^ 3 from rfl, wide_iterate_add_jump, jump3]
  decide

theorem seed_not_periodic_1057 : (lfsrNext false)^[1057] 0x7FFF#15 ≠ 0x7FFF#15 := by
  have jump10 : wideJump 10 0x7FFF#15 = 0x27FF#15 := by
    rw [wideJump_add_eight 2, wideJump_add_four 0]; decide
  have jump5 : wideJump 5 0x27FF#15 = 0x0B80#15 := by rw [wideJump_add_four 1]; decide
  rw [show 1057 = 33 + 2 ^ 10 from rfl, wide_iterate_add_jump, jump10,
    show 33 = 1 + 2 ^ 5 from rfl, wide_iterate_add_jump, jump5]
  decide

theorem seed_not_periodic_217 : (lfsrNext false)^[217] 0x7FFF#15 ≠ 0x7FFF#15 := by
  have jump7 : wideJump 7 0x7FFF#15 = 0x207F#15 := by
    rw [wideJump_add_four 3, wideJump_add_four 0]; decide
  have jump6 : wideJump 6 0x207F#15 = 0x2227#15 := by rw [wideJump_add_four 2]; decide
  have jump4 : wideJump 4 0x2227#15 = 0x199A#15 := by rw [wideJump_add_four 0]; decide
  rw [show 217 = 89 + 2 ^ 7 from rfl, wide_iterate_add_jump, jump7,
    show 89 = 25 + 2 ^ 6 from rfl, wide_iterate_add_jump, jump6,
    show 25 = 9 + 2 ^ 4 from rfl, wide_iterate_add_jump, jump4]
  decide

/-- A divisor of 32767 = 7 * 31 * 151 that is not all of it divides a maximal one. -/
theorem proper_divisor_32767 {p : Nat} (h : p ∣ 32767) (ne : p ≠ 32767) :
    p ∣ 4681 ∨ p ∣ 1057 ∨ p ∣ 217 := by
  obtain ⟨q, hq⟩ := h
  have q1 : q ≠ 1 := by rintro rfl; exact ne (by omega)
  obtain ⟨r, prime, m, rfl⟩ := Nat.exists_prime_and_dvd q1
  rw [Nat.mul_left_comm] at hq
  have factor : r ∣ 7 * 31 * 151 := ⟨p * m, hq⟩
  rw [prime.dvd_mul, prime.dvd_mul, Nat.prime_dvd_prime_iff_eq prime (by norm_num),
    Nat.prime_dvd_prime_iff_eq prime (by norm_num),
    Nat.prime_dvd_prime_iff_eq prime (by norm_num)] at factor
  rcases factor with (rfl | rfl) | rfl
  · exact .inl ⟨m, by omega⟩
  · exact .inr (.inl ⟨m, by omega⟩)
  · exact .inr (.inr ⟨m, by omega⟩)

/-- The seed's least period in wide mode. -/
theorem seed_minimalPeriod : minimalPeriod (lfsrNext false) 0x7FFF#15 = 32767 := by
  by_contra ne
  have periodic {n : Nat} (h : minimalPeriod (lfsrNext false) 0x7FFF#15 ∣ n) :
      (lfsrNext false)^[n] 0x7FFF#15 = 0x7FFF#15 :=
    (isPeriodicPt_minimalPeriod _ _).trans_dvd h
  have divides : minimalPeriod (lfsrNext false) 0x7FFF#15 ∣ 32767 :=
    IsPeriodicPt.minimalPeriod_dvd (wide_iterate_period _)
  rcases proper_divisor_32767 divides ne with h | h | h
  · exact seed_not_periodic_4681 (periodic h)
  · exact seed_not_periodic_1057 (periodic h)
  · exact seed_not_periodic_217 (periodic h)

/-- Before the least period there is no return. -/
theorem iterate_ne_of_lt_minimalPeriod {f : LfsrWord → LfsrWord} {x : LfsrWord} {n : Nat}
    (pos : 0 < n) (below : n < minimalPeriod f x) : f^[n] x ≠ x :=
  fun returns => not_isPeriodicPt_of_pos_of_lt_minimalPeriod pos.ne' below returns

/-! ### Narrow mode -/

/-- The low 7 bits are all zero. -/
theorem low7_zero_iff (l : LfsrWord) : l.toNat % 128 = 0 ↔ ∀ j < 7, l.getLsbD j = false := by
  constructor
  · intro h j hj
    have := Nat.testBit_mod_two_pow l.toNat 7 j
    rw [show l.toNat % 2 ^ 7 = 0 from h, decide_eq_true hj, Bool.true_and, Nat.zero_testBit] at this
    exact this.symm
  · intro h
    refine Nat.eq_of_testBit_eq fun j => ?_
    rw [show (128 : Nat) = 2 ^ 7 from rfl, Nat.testBit_mod_two_pow, Nat.zero_testBit]
    by_cases hj : j < 7
    · rw [show l.toNat.testBit j = false from h j hj, Bool.and_false]
    · rw [decide_eq_false hj, Bool.false_and]

/-- With nothing in the low 7 bits nothing is fed back: after `n` steps the top `n` bits are zero
too. -/
theorem narrow_drains {l : LfsrWord} (h : ∀ j < 7, l.getLsbD j = false) (n : Nat) :
    ∀ j, j < 7 ∨ 15 ≤ j + n → ((lfsrNext true)^[n] l).getLsbD j = false := by
  induction n with
  | zero =>
    rintro j (low | high)
    · exact h j low
    · exact BitVec.getLsbD_of_ge _ _ high
  | succ n ih =>
    have nothing : lfsrFeedback ((lfsrNext true)^[n] l) = false := by
      rw [lfsrFeedback, ih 0 (.inl (by decide)), ih 1 (.inl (by decide))]; rfl
    intro j hj
    rw [iterate_succ_apply', getLsbD_lfsrNext_narrow, getLsbD_lfsrNext_wide, nothing]
    by_cases h6 : j = 6
    · rw [if_pos h6]
    · by_cases h14 : j = 14
      · rw [if_neg h6, if_pos h14]
      · rw [if_neg h6, if_neg h14]
        exact ih (j + 1) (by omega)

/-- The low 7 bits of the step come from the low 7 bits, and are zero only from zero. -/
theorem narrow_low7_zero {l : LfsrWord} (h : ∀ j < 7, (lfsrNext true l).getLsbD j = false) :
    ∀ j < 7, l.getLsbD j = false := by
  have moved : ∀ j < 6, l.getLsbD (j + 1) = false := fun j hj => by
    have := h j (by omega)
    rwa [getLsbD_lfsrNext_narrow, getLsbD_lfsrNext_wide, if_neg (by omega), if_neg (by omega)] at this
  have fed : (l.getLsbD 0 ^^ l.getLsbD 1) = false := by
    have := h 6 (by decide)
    rwa [getLsbD_lfsrNext_narrow, if_pos rfl] at this
  rintro (_ | j) hj
  · rw [show l.getLsbD 1 = false from moved 0 (by decide), Bool.xor_false] at fed
    exact fed
  · exact moved j (by omega)

theorem narrow_iterate_low7 {l : LfsrWord} (h : l.toNat % 128 ≠ 0) (n : Nat) :
    ((lfsrNext true)^[n] l).toNat % 128 ≠ 0 := by
  induction n with
  | zero => exact h
  | succ n ih =>
    rw [iterate_succ_apply']
    exact fun zero => ih ((low7_zero_iff _).mpr (narrow_low7_zero ((low7_zero_iff _).mp zero)))

/-- The narrow cycle that the first step from the seed leads into. -/
theorem narrow_cycle_127 : (lfsrNext true)^[127] 0x3FBF#15 = 0x3FBF#15 := by decide +kernel

theorem narrow_minimalPeriod : minimalPeriod (lfsrNext true) 0x3FBF#15 = 127 := by
  have : Fact (Nat.Prime 127) := ⟨by norm_num⟩
  exact minimalPeriod_eq_prime narrow_cycle_127 (by unfold IsFixedPt; decide)

/-- The seed is not in the cycle its first narrow step leads into. -/
theorem narrow_seed_never_returns {n : Nat} (pos : 0 < n) :
    (lfsrNext true)^[n] 0x7FFF#15 ≠ 0x7FFF#15 := by
  have enters : lfsrNext true 0x7FFF#15 = 0x3FBF#15 := by decide
  intro returns
  obtain ⟨m, rfl⟩ := Nat.exists_eq_succ_of_ne_zero pos.ne'
  rw [iterate_succ_apply, enters] at returns
  have periodic : (lfsrNext true)^[127] 0x7FFF#15 = 0x7FFF#15 := by
    rw [← returns]
    exact IsPeriodicPt.apply_iterate narrow_cycle_127 m
  exact absurd periodic (by decide +kernel)

/-! ### The statements -/

/-- Settles O48: the wide step is undone bit by bit, and 15-bit words are finitely many; the narrow
step overwrites bit 7 on its way down. -/
theorem lfsrWideIsABijection : Obligations.LfsrWideIsABijection := by
  unfold Obligations.LfsrWideIsABijection
  refine ⟨fun l m h => lfsrNext_wide_injective h, lfsrNext_wide_surjective, fun l ne zero => ?_,
    0x0080#15, 0#15, by decide, by decide⟩
  have fixed : lfsrNext false 0#15 = 0#15 := by decide
  exact ne (lfsrNext_wide_injective (zero.trans fixed.symm))

/-- Settles O49: an empty low part feeds nothing back, and is reached from an empty one alone. -/
theorem lfsrNarrowDrains : Obligations.LfsrNarrowDrains := by
  unfold Obligations.LfsrNarrowDrains
  refine ⟨fun l n h long => ?_, fun l n h => narrow_iterate_low7 h n⟩
  apply BitVec.eq_of_getLsbD_eq
  intro j _
  rw [narrow_drains ((low7_zero_iff l).mp h) n j (by omega), BitVec.getLsbD_zero]

/-- Settles O50: the least periods are 2^15 - 1 and the prime 127. -/
theorem lfsrSequenceLengths : Obligations.LfsrSequenceLengths := by
  unfold Obligations.LfsrSequenceLengths
  refine ⟨wide_iterate_period _, fun n pos below => ?_, narrow_cycle_127, fun n pos below => ?_,
    by decide, fun n => narrow_seed_never_returns⟩
  · exact iterate_ne_of_lt_minimalPeriod pos (below.trans_eq seed_minimalPeriod.symm)
  · exact iterate_ne_of_lt_minimalPeriod pos (below.trans_eq narrow_minimalPeriod.symm)

end Sys2Proof.Machine

/-!
PROOFS. Whole-machine rules: the life cycle of a channel (rules R434, R463) and who writes the stored
bytes (rules R31, R33). Both are read off one inversion of `exec` and one of `TICK`.
-/

namespace Sys2Proof.Machine

open Sys2Proof.Claim

/-! ### Everything an operation can do to the APU -/

/-- The APU after an operation: a cycle, a register write, a power write, a wave RAM write, or as
before. -/
theorem exec_cases {i : Instr} {s t : State} (h : exec i s = .next t) :
    (i = .tick ∧ t.apu = tick s.apu) ∨
    (∃ n v, i = decodeWr n.addr v ∧ t.apu = gated (writeReg n v) s.apu) ∨
    (∃ v, i = .wrNr52 v ∧ t.apu = powerWrite v s.apu) ∨
    (∃ k v, i = .wrWave k v ∧ t.apu = gated (storeWave k.toNat v) s.apu) ∨
    (i ≠ .tick ∧ t.apu = s.apu) := by
  cases i <;> cases h
  case tick => exact .inl ⟨rfl, rfl⟩
  case wrNr10 v => exact .inr (.inl ⟨.nr10, v, rfl, rfl⟩)
  case wrNr11 v => exact .inr (.inl ⟨.nr11, v, rfl, rfl⟩)
  case wrNr12 v => exact .inr (.inl ⟨.nr12, v, rfl, rfl⟩)
  case wrNr13 v => exact .inr (.inl ⟨.nr13, v, rfl, rfl⟩)
  case wrNr14 v => exact .inr (.inl ⟨.nr14, v, rfl, rfl⟩)
  case wrNr21 v => exact .inr (.inl ⟨.nr21, v, rfl, rfl⟩)
  case wrNr22 v => exact .inr (.inl ⟨.nr22, v, rfl, rfl⟩)
  case wrNr23 v => exact .inr (.inl ⟨.nr23, v, rfl, rfl⟩)
  case wrNr24 v => exact .inr (.inl ⟨.nr24, v, rfl, rfl⟩)
  case wrNr30 v => exact .inr (.inl ⟨.nr30, v, rfl, rfl⟩)
  case wrNr31 v => exact .inr (.inl ⟨.nr31, v, rfl, rfl⟩)
  case wrNr32 v => exact .inr (.inl ⟨.nr32, v, rfl, rfl⟩)
  case wrNr33 v => exact .inr (.inl ⟨.nr33, v, rfl, rfl⟩)
  case wrNr34 v => exact .inr (.inl ⟨.nr34, v, rfl, rfl⟩)
  case wrNr41 v => exact .inr (.inl ⟨.nr41, v, rfl, rfl⟩)
  case wrNr42 v => exact .inr (.inl ⟨.nr42, v, rfl, rfl⟩)
  case wrNr43 v => exact .inr (.inl ⟨.nr43, v, rfl, rfl⟩)
  case wrNr44 v => exact .inr (.inl ⟨.nr44, v, rfl, rfl⟩)
  case wrNr50 v => exact .inr (.inl ⟨.nr50, v, rfl, rfl⟩)
  case wrNr51 v => exact .inr (.inl ⟨.nr51, v, rfl, rfl⟩)
  case wrNr52 v => exact .inr (.inr (.inl ⟨v, rfl, rfl⟩))
  case wrWave k v => exact .inr (.inr (.inr (.inl ⟨k, v, rfl, rfl⟩)))
  all_goals exact .inr (.inr (.inr (.inr ⟨nofun, rfl⟩)))

/-! ### The length counter and the `en` flag of a channel -/

section
variable (c : Channel) (a : Apu)

@[simp] theorem timerSteps_lenOf : lenOf c (timerSteps a) = lenOf c a := by
  rw [timerSteps_eq, pulseTimer_eq, pulseTimer_eq, waveTimer_eq, noiseTimer_eq]
  cases c <;> simp only [lenOf] <;> split <;> rfl

@[simp] theorem timerSteps_enabled : enabled c (timerSteps a) = enabled c a := by
  rw [timerSteps_eq, pulseTimer_eq, pulseTimer_eq, waveTimer_eq, noiseTimer_eq]
  cases c <;> simp only [enabled] <;> split <;> rfl

@[simp] theorem withFs_lenOf (f : FrameSeq) : lenOf c (a.withFs f) = lenOf c a := by
  cases c <;> rfl

@[simp] theorem withFs_enabled (f : FrameSeq) : enabled c (a.withFs f) = enabled c a := by
  cases c <;> rfl

theorem afterLength_lenOf : lenOf c (afterLength a) =
    if lenEn c a.regs = true then lenOf c a - 1 else lenOf c a := by cases c <;> rfl

theorem afterLength_enabled : enabled c (afterLength a) =
    if lenEn c a.regs = true ∧ lenOf c a = 1 then false else enabled c a := by cases c <;> rfl

@[simp] theorem envelopeSteps_enabled : enabled c (envelopeSteps a) = enabled c a := by
  cases c <;> rfl

theorem setEnabled_enabled (d : Channel) (e : Bool) :
    enabled c (setEnabled d e a) = if c = d then e else enabled c a := by
  cases c <;> cases d <;> rfl

@[simp] theorem storeReg_enabled (n : Reg) (v : Byte) :
    enabled c (storeReg n v a) = enabled c a := by cases c <;> rfl

@[simp] theorem sweepStep_lenOf : lenOf c (sweepStep a) = lenOf c a := by
  obtain ⟨-, -, ch2, ch3, ch4, -, ch1, -⟩ := sweepStep_frame a
  cases c with
  | ch1 => rcases ch1 with e | e <;> rw [lenOf, e] <;> rfl
  | ch2 => rw [lenOf, ch2]; rfl
  | ch3 => rw [lenOf, ch3]; rfl
  | ch4 => rw [lenOf, ch4]; rfl

end

/-- A sweep step changes no `en` flag but that of channel 1, and that only on an overflow. -/
theorem sweepStep_enabled (c : Channel) (a : Apu) : enabled c (sweepStep a) = enabled c a ∨
    (enabled c (sweepStep a) = false ∧ c = .ch1 ∧ a.sweep.swen = true ∧ a.sweep.swt ≤ 1 ∧
      0 < a.regs.nr10.toNat / 16 % 8 ∧ 2047 < sweepCandidate a) := by
  have cases := sweepStep_cases a
  rw [sweepPeriod_eq, sweepNew_eq] at cases
  rcases cases with ⟨-, e⟩ | ⟨-, -, e⟩ | ⟨-, -, -, e⟩ | ⟨on, one, some, large, e⟩ | ⟨-, -, -, -, e⟩ <;>
    rw [e]
  · exact .inl rfl
  · exact .inl (by cases c <;> rfl)
  · exact .inl (by cases c <;> rfl)
  · rw [setEnabled_enabled]
    by_cases hc : c = .ch1
    · exact .inr ⟨if_pos hc, hc, on, one, some, large⟩
    · exact .inl ((if_neg hc).trans (by cases c <;> rfl))
  · exact .inl (by cases c <;> rfl)

/-- At the steps that clock the length counters each counter is clocked once. -/
theorem tick_lenOf {a : Apu} (h : AtStep [0, 2, 4, 6] a) (c : Channel) :
    lenOf c (tick a) = lenOf c (afterLength a) := by
  have split : ∀ k : Fin 8, k.val ∈ [0, 2, 4, 6] → k.val ∈ [0, 4] ∨ k.val ∈ [2, 6] := by decide
  rw [tick_at h, timerSteps_lenOf, withFs_lenOf]
  rcases split _ h.2.2 with k | k
  · rw [fsStep_length a k]
  · rw [fsStep_sweep a k, sweepStep_lenOf]

/-- What makes a `TICK` clear an `en` flag: a length counter that expires, or a sweep overflow. -/
def TickClears (c : Channel) (a : Apu) : Prop :=
  (AtStep [0, 2, 4, 6] a ∧ lenEn c a.regs = true ∧ lenOf c a = 1) ∨
  (AtStep [2, 6] a ∧ c = .ch1 ∧ a.sweep.swen = true ∧ a.sweep.swt ≤ 1 ∧
    0 < a.regs.nr10.toNat / 16 % 8 ∧ 2047 < sweepCandidate a)

/-- A `TICK` keeps an `en` flag or clears it for one of these reasons. -/
theorem tick_enabled (c : Channel) (a : Apu) : enabled c (tick a) = enabled c a ∨
    (enabled c (tick a) = false ∧ TickClears c a) := by
  have widen {l : List Nat} (h : AtStep l a) (sub : ∀ k ∈ l, k ∈ [0, 2, 4, 6]) :
      AtStep [0, 2, 4, 6] a := ⟨h.1, h.2.1, sub _ h.2.2⟩
  have length : AtStep [0, 2, 4, 6] a → enabled c (afterLength a) = enabled c a ∨
      (enabled c (afterLength a) = false ∧ TickClears c a) := fun h => by
    rw [afterLength_enabled]
    by_cases expires : lenEn c a.regs = true ∧ lenOf c a = 1
    · exact .inr ⟨if_pos expires, .inl ⟨h, expires⟩⟩
    · exact .inl (if_neg expires)
  rcases tick_cases a with ⟨-, e⟩ | ⟨-, -, e⟩ | ⟨h, e⟩ | ⟨-, e⟩ | ⟨h, e⟩ | ⟨-, e⟩ <;> rw [e]
  · exact .inl rfl
  · rw [timerSteps_enabled, withFs_enabled]; exact .inl rfl
  · rw [timerSteps_enabled, withFs_enabled]
    exact length (widen h (by decide))
  · rw [timerSteps_enabled, withFs_enabled]; exact .inl rfl
  · rw [timerSteps_enabled, withFs_enabled]
    rcases sweepStep_enabled c (afterLength a) with same | ⟨cleared, overflow⟩
    · rw [same]; exact length (widen h (by decide))
    · exact .inr ⟨cleared, .inr ⟨h, overflow⟩⟩
  · rw [timerSteps_enabled, withFs_enabled, envelopeSteps_enabled]; exact .inl rfl

/-! ### Register writes and the `en` flags -/

/-- A write of `v` to `n` that triggers channel `c`. -/
def WriteTriggers (c : Channel) (n : Reg) (v : Byte) (a : Apu) : Prop :=
  n = controlReg c ∧ v.getLsbD 7 = true ∧ (c = .ch3 → a.regs.nr30.getLsbD 7 = true)

/-- A write of `v` to `n` that turns the DAC of channel `c` off. -/
def WriteIdles (c : Channel) (n : Reg) (v : Byte) : Prop :=
  (v.toNat < 8 ∧ ((c = .ch1 ∧ n = .nr12) ∨ (c = .ch2 ∧ n = .nr22) ∨ (c = .ch4 ∧ n = .nr42))) ∨
  (v.getLsbD 7 = false ∧ c = .ch3 ∧ n = .nr30)

theorem disableUnless_enabled (on : Bool) (c d : Channel) (a : Apu) :
    enabled c (disableUnless on d a) = enabled c a ∨
    (enabled c (disableUnless on d a) = false ∧ c = d ∧ on = false) := by
  rw [disableUnless_eq, setEnabled_enabled]
  by_cases hc : c = d
  · subst hc
    cases on
    · exact .inr ⟨if_pos rfl, rfl, rfl⟩
    · exact .inl (if_pos rfl)
  · exact .inl (if_neg hc)

/-- A trigger sets its channel's `en`, for channel 3 only with the DAC on, and no other. -/
theorem triggerOf_enabled (c d : Channel) (a : Apu) : enabled c (triggerOf d a) =
    if c = d ∧ (d = .ch3 → a.regs.nr30.getLsbD 7 = true) then true else enabled c a := by
  cases d with
  | ch1 => cases c <;> rfl
  | ch2 => cases c <;> rfl
  | ch4 => cases c <;> rfl
  | ch3 =>
    show enabled c (trigger3 a) = _
    cases dac : a.regs.nr30.getLsbD 7
    · rw [trigger3_dac_off dac, if_neg (by simp)]
    · rw [trigger3_dac_on dac]
      cases c <;> rfl

theorem writeReg_control_enabled (c d : Channel) (v : Byte) (a : Apu) :
    enabled c (writeReg (controlReg d) v a) = enabled c a ∨
    (enabled c (writeReg (controlReg d) v a) = true ∧ WriteTriggers c (controlReg d) v a) := by
  cases trig : v.getLsbD 7
  · rw [writeReg_plain d trig, storeReg_enabled]; exact .inl rfl
  · have nr30 : (storeReg (controlReg d) v a).regs.nr30 = a.regs.nr30 := by cases d <;> rfl
    rw [writeReg_trigger d trig, triggerOf_enabled, nr30, storeReg_enabled]
    by_cases hit : c = d ∧ (d = .ch3 → a.regs.nr30.getLsbD 7 = true)
    · obtain ⟨rfl, dac⟩ := hit
      exact .inr ⟨if_pos ⟨rfl, dac⟩, rfl, trig, dac⟩
    · exact .inl (if_neg hit)

/-- Everything a register write can do to an `en` flag. -/
theorem writeReg_enabled (c : Channel) (n : Reg) (v : Byte) (a : Apu) :
    enabled c (writeReg n v a) = enabled c a ∨
    (enabled c (writeReg n v a) = true ∧ WriteTriggers c n v a) ∨
    (enabled c (writeReg n v a) = false ∧ WriteIdles c n v) := by
  have control (d : Channel) : enabled c (writeReg (controlReg d) v a) = enabled c a ∨
      (enabled c (writeReg (controlReg d) v a) = true ∧ WriteTriggers c (controlReg d) v a) ∨
      (enabled c (writeReg (controlReg d) v a) = false ∧ WriteIdles c (controlReg d) v) :=
    (writeReg_control_enabled c d v a).imp_right .inl
  have small : dacOn v = false → v.toNat < 8 := fun h => by
    rw [dacOn_eq, decide_eq_false_iff_not] at h; omega
  cases n with
  | nr10 | nr11 | nr13 | nr21 | nr23 | nr31 | nr32 | nr33 | nr41 | nr43 | nr50 | nr51 =>
    exact .inl (by cases c <;> rfl)
  | nr14 => exact control .ch1
  | nr24 => exact control .ch2
  | nr34 => exact control .ch3
  | nr44 => exact control .ch4
  | nr12 =>
    rcases disableUnless_enabled (dacOn v) c .ch1 (storeReg .nr12 v a) with e | ⟨e, hc, off⟩
    · exact .inl (e.trans (storeReg_enabled ..))
    · exact .inr (.inr ⟨e, .inl ⟨small off, .inl ⟨hc, rfl⟩⟩⟩)
  | nr22 =>
    rcases disableUnless_enabled (dacOn v) c .ch2 (storeReg .nr22 v a) with e | ⟨e, hc, off⟩
    · exact .inl (e.trans (storeReg_enabled ..))
    · exact .inr (.inr ⟨e, .inl ⟨small off, .inr (.inl ⟨hc, rfl⟩)⟩⟩)
  | nr42 =>
    rcases disableUnless_enabled (dacOn v) c .ch4 (storeReg .nr42 v a) with e | ⟨e, hc, off⟩
    · exact .inl (e.trans (storeReg_enabled ..))
    · exact .inr (.inr ⟨e, .inl ⟨small off, .inr (.inr ⟨hc, rfl⟩)⟩⟩)
  | nr30 =>
    rcases disableUnless_enabled (waveDac v) c .ch3 (storeReg .nr30 v a) with e | ⟨e, hc, off⟩
    · exact .inl (e.trans (storeReg_enabled ..))
    · exact .inr (.inr ⟨e, .inr ⟨off, hc, rfl⟩⟩)

/-- A power write keeps the `en` flags or, with bit 7 of the byte clear, clears them. -/
theorem powerWrite_enabled (c : Channel) (v : Byte) (a : Apu) :
    enabled c (powerWrite v a) = enabled c a ∨
    (enabled c (powerWrite v a) = false ∧ v.getLsbD 7 = false) := by
  cases h : v.getLsbD 7
  · rw [powerWrite_off h]
    exact .inr ⟨by cases c <;> rfl, rfl⟩
  · cases on : a.power
    · rw [powerWrite_turns_on h on]; exact .inl (by cases c <;> rfl)
    · rw [powerWrite_stays_on h on]; exact .inl rfl

/-- Everything an operation can do to an `en` flag. -/
theorem exec_enabled {i : Instr} {s t : State} (h : exec i s = .next t) (c : Channel) :
    enabled c t.apu = enabled c s.apu ∨
    (enabled c t.apu = false ∧ i = .tick ∧ t.apu = tick s.apu ∧ TickClears c s.apu) ∨
    (s.apu.power = true ∧ ∃ n v, i = decodeWr n.addr v ∧
      ((enabled c t.apu = true ∧ WriteTriggers c n v s.apu) ∨
       (enabled c t.apu = false ∧ WriteIdles c n v))) ∨
    (enabled c t.apu = false ∧ ∃ v : Byte, v.getLsbD 7 = false ∧ i = .wrNr52 v) := by
  rcases exec_cases h with ⟨hi, e⟩ | ⟨n, v, hi, e⟩ | ⟨v, hi, e⟩ | ⟨k, v, hi, e⟩ | ⟨-, e⟩ <;> rw [e]
  · rcases tick_enabled c s.apu with same | ⟨cleared, why⟩
    · exact .inl same
    · exact .inr (.inl ⟨cleared, hi, rfl, why⟩)
  · cases on : s.apu.power
    · rw [gated_off _ on]; exact .inl rfl
    · rw [gated_on _ on]
      rcases writeReg_enabled c n v s.apu with same | why
      · exact .inl same
      · exact .inr (.inr (.inl ⟨rfl, n, v, hi, why⟩))
  · rcases powerWrite_enabled c v s.apu with same | ⟨cleared, off⟩
    · exact .inl same
    · exact .inr (.inr (.inr ⟨cleared, v, off, hi⟩))
  · exact .inl (gated_keeps (P := fun x => enabled c x = enabled c s.apu) rfl (by cases c <;> rfl))
  · exact .inl rfl

/-! ### A trigger against a length expiry -/

/-- What a trigger with length enable does before the `TICK` of its cycle. -/
theorem writeReg_control_races {c : Channel} {v : Byte} {a : Apu} (trig : v.getLsbD 7 = true)
    (len1 : lenOf c a = 1) : lenEn c (writeReg (controlReg c) v a).regs = v.getLsbD 6 ∧
    lenOf c (writeReg (controlReg c) v a) = 1 ∧
    ((c = .ch3 → a.regs.nr30.getLsbD 7 = true) →
      enabled c (writeReg (controlReg c) v a) = true) := by
  have keeps (full : Nat) : lengthAtTrigger (lenOf c a) full = 1 := by
    rw [len1]; exact if_neg Nat.one_ne_zero
  have nr30 : (storeReg (controlReg c) v a).regs.nr30 = a.regs.nr30 := by cases c <;> rfl
  refine ⟨?_, ?_, fun dac => ?_⟩
  · rw [(writeReg_storedFrom _ v a).regs]
    cases c <;> rfl
  · rw [writeReg_trigger c trig]
    cases c with
    | ch1 => exact keeps _
    | ch2 => exact keeps _
    | ch4 => exact keeps _
    | ch3 =>
      show lenOf .ch3 (trigger3 (storeReg .nr34 v a)) = 1
      cases dac : waveDac (storeReg .nr34 v a).regs.nr30
      · rw [trigger3_dac_off dac]; exact len1
      · rw [trigger3_dac_on dac]; exact keeps _
  · rw [writeReg_trigger c trig, triggerOf_enabled, nr30, if_pos ⟨rfl, dac⟩]

/-- A length counter of 1 expires at a length step and takes `en` with it. -/
theorem tick_length_expires {a : Apu} {c : Channel} (h : AtStep [0, 2, 4, 6] a)
    (on : lenEn c a.regs = true) (len1 : lenOf c a = 1) :
    lenOf c (tick a) = 0 ∧ enabled c (tick a) = false := by
  constructor
  · rw [tick_lenOf h, afterLength_lenOf, if_pos on, len1]
  · have split : ∀ k : Fin 8, k.val ∈ [0, 2, 4, 6] → k.val ∈ [0, 4] ∨ k.val ∈ [2, 6] := by decide
    have cleared : enabled c (afterLength a) = false := by
      rw [afterLength_enabled, if_pos ⟨on, len1⟩]
    rw [tick_at h, timerSteps_enabled, withFs_enabled]
    rcases split _ h.2.2 with k | k
    · rw [fsStep_length a k, cleared]
    · rw [fsStep_sweep a k]
      rcases sweepStep_enabled c (afterLength a) with same | ⟨e, -⟩
      · rw [same, cleared]
      · exact e

/-! ### Who writes the stored bytes -/

theorem sweepStep_nr14 (a : Apu) :
    (sweepStep a).regs.nr14.toNat / 8 = a.regs.nr14.toNat / 8 := by
  rcases sweepStep_cases a with ⟨-, e⟩ | ⟨-, -, e⟩ | ⟨-, -, -, e⟩ | ⟨-, -, -, -, e⟩ | ⟨-, -, -, fits, e⟩ <;>
    rw [e]
  · rfl
  · rfl
  · rfl
  · rw [sweepWriteBack_eq _ fits]
    have := a.regs.nr14.isLt
    show (BitVec.ofNat 8 (a.regs.nr14.toNat / 8 * 8 + _)).toNat / 8 = _
    rw [BitVec.toNat_ofNat]
    omega

/-- A `TICK` keeps the memory, and every register byte but those of the sweep's write-back. -/
theorem tick_stored (a : Apu) : (tick a).mem = a.mem ∧
    (tick a).regs.nr14.toNat / 8 = a.regs.nr14.toNat / 8 ∧
    ∀ n, (tick a).regs.get n ≠ a.regs.get n →
      AtStep [2, 6] a ∧ a.sweep.swen = true ∧ (n = .nr13 ∨ n = .nr14) := by
  have same {b : Apu} (mem : b.mem = a.mem) (regs : b.regs = a.regs) :
      (timerSteps b).mem = a.mem ∧ (timerSteps b).regs.nr14.toNat / 8 = a.regs.nr14.toNat / 8 ∧
      ∀ n, (timerSteps b).regs.get n ≠ a.regs.get n →
        AtStep [2, 6] a ∧ a.sweep.swen = true ∧ (n = .nr13 ∨ n = .nr14) := by
    rw [timerSteps_mem, timerSteps_regs, mem, regs]
    exact ⟨rfl, rfl, fun n ne => absurd rfl ne⟩
  rcases tick_cases a with ⟨-, e⟩ | ⟨-, -, e⟩ | ⟨-, e⟩ | ⟨-, e⟩ | ⟨h, e⟩ | ⟨-, e⟩ <;> rw [e]
  · exact ⟨rfl, rfl, fun n ne => absurd rfl ne⟩
  · exact same rfl rfl
  · exact same rfl rfl
  · exact same rfl rfl
  · rw [timerSteps_mem, timerSteps_regs, Apu.withFs_mem, Apu.withFs_regs]
    obtain ⟨mem, -, -, -, -, -, -, regs⟩ := sweepStep_frame (afterLength a)
    refine ⟨mem, sweepStep_nr14 (afterLength a), fun n ne => ⟨h, ?_, ?_⟩⟩
    · by_contra off
      rw [Bool.not_eq_true] at off
      rw [sweepStep, if_pos (show (afterLength a).sweep.swen = false from off)] at ne
      exact ne rfl
    · by_contra other
      rw [not_or] at other
      exact ne (regs n other.1 other.2)
  · exact same rfl rfl

/-- A power write keeps the memory, and every register byte but those power-off clears. -/
theorem powerWrite_stored (v : Byte) (a : Apu) : (powerWrite v a).mem = a.mem ∧
    ∀ n, (powerWrite v a).regs.get n ≠ a.regs.get n →
      v.getLsbD 7 = false ∧ (n = .nr50 ∨ n = .nr51) := by
  cases h : v.getLsbD 7
  · rw [powerWrite_off h]
    refine ⟨rfl, fun n ne => ⟨rfl, ?_⟩⟩
    by_contra other
    rw [not_or] at other
    refine ne ?_
    show ((a.regs.set .nr50 0x00#8).set .nr51 0x00#8).get n = _
    rw [Regs.get_set_other _ _ other.2, Regs.get_set_other _ _ other.1]
  · cases on : a.power
    · rw [powerWrite_turns_on h on]; exact ⟨rfl, fun n ne => absurd rfl ne⟩
    · rw [powerWrite_stays_on h on]; exact ⟨rfl, fun n ne => absurd rfl ne⟩

/-! ### The statements -/

/-- Settles O46: the write of the edge triggers, and the `TICK` after it expires the counter. -/
theorem sameCycleTriggerLosesToLengthExpiry : Obligations.SameCycleTriggerLosesToLengthExpiry := by
  unfold Obligations.SameCycleTriggerLosesToLengthExpiry
  intro s p rest c input rst we re addr trig lenBit atStep len1
  have write : busWrite p.addr p.wdata s.apu = writeReg (controlReg c) p.wdata s.apu := by
    rw [addr, controlAddr_eq, busWrite_addr, gated_on _ atStep.1]
  obtain ⟨on, len, en⟩ := writeReg_control_races trig len1
  rw [write]
  refine ⟨fun dac => ⟨en dac, len⟩, _, (step_clock input).trans (execClock_runs _ rst (by simp [re])), ?_⟩
  show lenOf c (tick (edgeWrite p s.apu)) = 0 ∧ enabled c (tick (edgeWrite p s.apu)) = false
  rw [edgeWrite_we we, write]
  obtain ⟨-, -, power, fs⟩ := writeReg_storedFrom (controlReg c) p.wdata s.apu
  refine tick_length_expires ?_ (on.trans lenBit) len
  rw [AtStep, power, fs]
  exact atStep

/-- Settles O59: an `en` flag is kept, or changed by one of the listed events. -/
theorem channelLifeCycle : Obligations.ChannelLifeCycle := by
  unfold Obligations.ChannelLifeCycle
  intro i s t c run
  rcases exec_enabled run c with same | ⟨cleared, hi, ht, why⟩ |
    ⟨on, n, v, hi, ⟨set, why⟩ | ⟨cleared, why⟩⟩ | ⟨cleared, v, off, hi⟩
  · rw [same]
    exact ⟨fun f t => absurd (f.symm.trans t) Bool.false_ne_true,
      fun t f => absurd (f.symm.trans t) Bool.false_ne_true⟩
  · refine ⟨fun _ t => absurd (cleared.symm.trans t) Bool.false_ne_true, fun _ _ => ?_⟩
    rcases why with ⟨at_h, lenOn, len1⟩ | ⟨at_h, overflow⟩
    · refine .inl ⟨hi, at_h, lenOn, len1, ?_⟩
      rw [ht]
      exact (tick_length_expires at_h lenOn len1).1
    · exact .inr (.inl ⟨hi, at_h, overflow⟩)
  · refine ⟨fun _ _ => ⟨on, v, ?_⟩, fun _ f => absurd (f.symm.trans set) Bool.false_ne_true⟩
    obtain ⟨rfl, trig, dac⟩ := why
    refine ⟨trig, ?_⟩
    cases c with
    | ch1 => exact .inl ⟨rfl, hi⟩
    | ch2 => exact .inr (.inl ⟨rfl, hi⟩)
    | ch3 => exact .inr (.inr (.inl ⟨rfl, hi, dac rfl⟩))
    | ch4 => exact .inr (.inr (.inr ⟨rfl, hi⟩))
  · refine ⟨fun _ t => absurd (cleared.symm.trans t) Bool.false_ne_true,
      fun _ _ => .inr (.inr ?_)⟩
    rcases why with ⟨small, ⟨hc, rfl⟩ | ⟨hc, rfl⟩ | ⟨hc, rfl⟩⟩ | ⟨bit7, hc, rfl⟩
    · exact .inl ⟨v, small, .inl ⟨hc, hi⟩⟩
    · exact .inl ⟨v, small, .inr (.inl ⟨hc, hi⟩)⟩
    · exact .inl ⟨v, small, .inr (.inr ⟨hc, hi⟩)⟩
    · exact .inr (.inl ⟨v, bit7, hc, hi⟩)
  · exact ⟨fun _ t => absurd (cleared.symm.trans t) Bool.false_ne_true,
      fun _ _ => .inr (.inr (.inr (.inr ⟨v, off, hi⟩)))⟩

/-- Settles O60: the bytes after each kind of operation. -/
theorem storedBytesHaveOnlyTheirWriters : Obligations.StoredBytesHaveOnlyTheirWriters := by
  unfold Obligations.StoredBytesHaveOnlyTheirWriters
  intro i s t run
  rcases exec_cases run with ⟨rfl, e⟩ | ⟨n, v, rfl, e⟩ | ⟨v, rfl, e⟩ | ⟨k, v, rfl, e⟩ | ⟨hi, e⟩ <;>
    rw [e]
  · obtain ⟨mem, nr14, regs⟩ := tick_stored s.apu
    refine ⟨fun n ne => ?_, fun _ => nr14, fun a ne => absurd (by rw [mem]) ne⟩
    obtain ⟨h, swen, hn⟩ := regs n ne
    exact .inr (.inl ⟨rfl, h, swen, hn⟩)
  · have noTick : decodeWr n.addr v ≠ .tick := by cases n <;> exact nofun
    cases on : s.apu.power
    · rw [gated_off _ on]
      exact ⟨fun m ne => absurd rfl ne, fun h => absurd h noTick, fun a ne => absurd rfl ne⟩
    · obtain ⟨regs, mem, -, -⟩ := writeReg_storedFrom n v s.apu
      rw [gated_on _ on, regs, mem]
      refine ⟨fun m ne => .inl ⟨rfl, v, ?_⟩, fun h => absurd h noTick, fun a ne => absurd rfl ne⟩
      by_cases hm : m = n
      · subst hm
        exact ⟨rfl, Regs.get_set_same ..⟩
      · exact absurd (Regs.get_set_other _ v hm) ne
  · obtain ⟨mem, regs⟩ := powerWrite_stored v s.apu
    refine ⟨fun n ne => ?_, nofun, fun a ne => absurd (by rw [mem]) ne⟩
    obtain ⟨off, hn⟩ := regs n ne
    exact .inr (.inr ⟨⟨v, rfl, off⟩, hn⟩)
  · cases on : s.apu.power
    · rw [gated_off _ on]
      exact ⟨fun m ne => absurd rfl ne, nofun, fun a ne => absurd rfl ne⟩
    · rw [gated_on _ on]
      refine ⟨fun m ne => absurd rfl ne, nofun, fun a ne => ⟨rfl, k, v, rfl, ?_⟩⟩
      by_contra other
      exact ne (Memory.read_write_other _ v other)
  · exact ⟨fun n ne => absurd rfl ne, fun h => absurd h hi, fun a ne => absurd rfl ne⟩

end Sys2Proof.Machine
